-- ==== Sys2Proof/Word.lean ====
section
/-! DEFINITION. The two word types: a 32-bit value and a byte (spec 00_scope.md R5, R7; 20_memory.md R50). -/

namespace Sys2Proof

/-- Every arithmetic value of the block: an unsigned 32-bit integer that wraps modulo 2^32 (R5). -/
abbrev Word := BitVec 32

/-- The addressable unit of the image buffer (R50). -/
abbrev Byte := BitVec 8

end Sys2Proof
end

