-- ==== Sys2Proof/Syntax.lean ====
section
/-! DEFINITION. The commands of the opcode table, the fields of the command word, the five identities, the host
registers and the host's actions (30_encoding.md R70 to R78, 10_state.md R27). -/

namespace Sys2Proof

/-- The commands: one constructor per row of the opcode table (R72). `id` is the 3-bit code of `CMD[6:4]`, used
as it stands; whether it names an identity is checked by the command itself, not by the decoder (R71, R75). -/
inductive Instr where
  | digest
  | ident
  | cksum (id : BitVec 3)
  | patch
  deriving DecidableEq, Repr

/-- The closed set of boot-chip identities (R1, R101). -/
inductive Identity where
  | v1 | v2 | v3 | v5 | v6
  deriving DecidableEq, Repr

/-- Format `C`, the one command format, split into its fields (R70). -/
structure Fields where
  /-- Bits [31:7]; must be 0. -/
  z  : BitVec 25
  /-- Bits [6:4]; used by `CKSUM` only, 0 in every other command. -/
  id : BitVec 3
  /-- Bits [3:0]. -/
  op : BitVec 4
  deriving DecidableEq, Repr

/-- Why a command word is illegal (R73). -/
inductive Illegal where
  /-- `Z` is not 0. -/
  | reservedBits
  /-- `OP` is 0x0 or one of 0x5 to 0xF. -/
  | unknownOp
  /-- `ID` is not 0 although `OP` is not that of `CKSUM`. -/
  | strayId
  deriving DecidableEq, Repr

/-- What a 32-bit word decodes to: exactly one of the four commands, or `IllegalCommand` (R75). -/
inductive Decoded where
  | command (i : Instr)
  | illegal (why : Illegal)
  deriving DecidableEq, Repr

/-- The ten host registers (R27). -/
inductive Reg where
  | cmd | arg0 | arg1 | len | status | dgst | idr | res0 | res1 | flags
  deriving DecidableEq, Repr

/-- What the host can do between commands (R64, R76, R170, R179). -/
inductive HostAction where
  /-- `WR <reg>, <value>`; a write of `CMD` issues the command word (R28). -/
  | write (r : Reg) (v : Word)
  /-- `RD <reg>`. -/
  | read (r : Reg)
  /-- The host, which owns the buffer, changes the byte at an offset (R64 (b)). -/
  | poke (a : Word) (b : Byte)
  /-- Reset is applied (R170). -/
  | reset
  deriving DecidableEq, Repr

/-- The pseudo-instructions of R78. -/
inductive Pseudo where
  /-- `CKSUM V<n>`. -/
  | cksumNamed (idn : Identity)
  /-- `FINGERPRINT`. -/
  | fingerprint
  deriving DecidableEq, Repr

end Sys2Proof
end

