-- ==== Sys2Proof/WellFormed.lean ====
section
/-! DEFINITION. When the fields of a command word are legal (30_encoding.md R70, R72, R73). Three checks, one for
each way R73 names of being illegal. -/

namespace Sys2Proof

/-- `Z` must be 0 (R70). -/
def Fields.zeroZ (f : Fields) : Bool := f.z == 0

/-- `OP` selects one of the four rows (R72). -/
def Fields.knownOp (f : Fields) : Bool := f.op == 1 || f.op == 2 || f.op == 3 || f.op == 4

/-- `ID` must be 0 for every command but `CKSUM` (R70). -/
def Fields.idAllowed (f : Fields) : Bool := f.op == 3 || f.id == 0

/-- The fields are those of a legal command word (R73). -/
def Fields.wellFormed (f : Fields) : Bool := f.zeroZ && f.knownOp && f.idAllowed

/-- The fields R72's table gives each command. -/
def Instr.fields : Instr → Fields
  | .digest   => { z := 0, id := 0, op := 1 }
  | .ident    => { z := 0, id := 0, op := 2 }
  | .cksum id => { z := 0, id := id, op := 3 }
  | .patch    => { z := 0, id := 0, op := 4 }

/-- A command is well-formed when its fields are. The operand's type has just the eight values the field
admits, so every command passes. -/
def Instr.wellFormed (i : Instr) : Bool := i.fields.wellFormed

end Sys2Proof
end

