-- ==== Sys2Proof/Decode.lean ====
section
/-! DEFINITION. From a command word to a command and back (30_encoding.md R70 to R75, R78). -/

namespace Sys2Proof

/-- Split a word into the fields of format `C` (R70). -/
def splitWord (w : Word) : Fields where
  z  := w.extractLsb' 7 25
  id := w.extractLsb' 4 3
  op := w.extractLsb' 0 4

/-- The decoding procedure of R75: total, and an illegal word is rejected by name (R73). -/
def decode (w : Word) : Decoded :=
  let f := splitWord w
  if f.z ≠ 0 then .illegal .reservedBits
  else if f.op = 1 then (if f.id = 0 then .command .digest else .illegal .strayId)
  else if f.op = 2 then (if f.id = 0 then .command .ident else .illegal .strayId)
  else if f.op = 3 then .command (.cksum f.id)
  else if f.op = 4 then (if f.id = 0 then .command .patch else .illegal .strayId)
  else .illegal .unknownOp

/-- The command a word decodes to, if it is legal. -/
def decodeCommand (w : Word) : Option Instr :=
  match decode w with
  | .command i => some i
  | .illegal _ => none

/-- What the decoder reads from an instruction whose bits are `w`; bits from `nbits` up are 0. A command is one
32-bit number (R74), so there is no byte order and no second word. -/
def decodeTableWord (nbits w : Nat) : Option Instr :=
  decodeCommand (BitVec.ofNat 32 (w % 2 ^ nbits))

/-- Put the fields of format `C` together, `Z` most significant (R70). -/
def joinFields (f : Fields) : Word := f.z ++ f.id ++ f.op

/-- The word of a command, by the table of R72. -/
def encode (i : Instr) : Word := joinFields i.fields

/-- The code of an identity: the digit of its name (R71, 92 D4). -/
def identityCode : Identity → BitVec 3
  | .v1 => 1
  | .v2 => 2
  | .v3 => 3
  | .v5 => 5
  | .v6 => 6

/-- The real command a pseudo-instruction is a spelling of (R78). -/
def expandPseudo : Pseudo → Instr
  | .cksumNamed idn => .cksum (identityCode idn)
  | .fingerprint    => .ident

end Sys2Proof
end

