-- ==== Sys2Proof/Config.lean ====
section
/-! DEFINITION. What is fixed for the block: the constants of 00_scope.md R4, the open parameters (the four
seeds), and the free values the spec leaves open. -/

namespace Sys2Proof

/-! ## Constants the document states (R4). UNVERIFIED: the literals are unaudited (93 U9; log 14); unsafe. -/

/-- `HEADER_SIZE`, 64 bytes (R4). -/
def Config.headerSize : Nat := 0x40
/-- `FP_START`: where the fingerprint region begins (R4, R100). -/
def Config.fpStart : Nat := 0x40
/-- `FP_LEN`: 4032 bytes (R4, R100). -/
def Config.fpLen : Nat := 0xFC0
/-- `CK_START`: where the checksum region begins (R4, R112). -/
def Config.ckStart : Nat := 0x1000
/-- `CK_LEN`: 1 MiB (R4, R112). -/
def Config.ckLen : Nat := 0x100000
/-- The number of iterations of `CKSUM`: `CK_LEN / 4` = 262144 (R112). -/
def Config.ckWords : Nat := Config.ckLen / 4
/-- `MIN_LEN` = `CK_START + CK_LEN` = 0x101000: the least buffer length `CKSUM` accepts (R4, R110). -/
def Config.minLen : Nat := Config.ckStart + Config.ckLen
/-- `AUX_BASE` = `0x40 + 0x0710` = 0x750: the auxiliary window of the V5 step (R4, R117). -/
def Config.auxBase : Nat := Config.headerSize + 0x0710
/-- `AUX_MASK` (R4, R117). -/
def Config.auxMask : Word := 0xFF#32
/-- `CRC1_OFF`: the first header field (R4, R130). -/
def Config.crc1Off : Nat := 0x10
/-- `CRC2_OFF`: the second header field (R4, R130). -/
def Config.crc2Off : Nat := 0x14
/-- The least buffer length `PATCH` accepts: 0x18, the end of the second header field (R133). -/
def Config.patchMinLen : Nat := Config.crc2Off + 4
/-- `POLY`, the reflected CRC-32 polynomial (R4, R90). -/
def Config.poly : Word := 0xEDB88320#32
/-- `CRC_INIT` (R4, R92). -/
def Config.crcInit : Word := 0xFFFFFFFF#32
/-- `FP_V1` (R4, R101). -/
def Config.fpV1 : Word := 0x6170A4A1#32
/-- `FP_V2` (R4, R101). -/
def Config.fpV2 : Word := 0x90BB6CB5#32
/-- `FP_V3` (R4, R101). -/
def Config.fpV3 : Word := 0x0B050EE0#32
/-- `FP_V5` (R4, R101). -/
def Config.fpV5 : Word := 0x98BC2C86#32
/-- `FP_V6` (R4, R101). -/
def Config.fpV6 : Word := 0xACC8580A#32

/-! ## Open parameters -/

/-- The parameters a rule takes as arguments: the four seeds, which the document names without values, and
`PATCH_COMPAT` (R4; 92 D11, D13). The functions of the checksum and of the patch take one of these, so that
a claim about them can range over every instance. -/
structure Config.Params where
  seedA : Word
  seedB : Word
  seedC : Word
  seedD : Word
  patchCompat : Bool
  deriving DecidableEq, Repr

/-- `SEED_A`, of V1 and V2. No body: the spec gives no value (R4, 92 D11; log 10); safe. -/
opaque Config.seedA : Word
/-- `SEED_B`, of V3 (log 10); safe. -/
opaque Config.seedB : Word
/-- `SEED_C`, of V5 (log 10); safe. -/
opaque Config.seedC : Word
/-- `SEED_D`, of V6 (log 10); safe. -/
opaque Config.seedD : Word

/-- `PATCH_COMPAT`: 0 is the value this hardware takes (R4, R132, 92 D13; log 11). -/
def Config.patchCompat : Bool := false

/-- The parameters of this machine: unknown seeds, `PATCH_COMPAT = 0` (R4). -/
def Config.params : Config.Params where
  seedA := Config.seedA
  seedB := Config.seedB
  seedC := Config.seedC
  seedD := Config.seedD
  patchCompat := Config.patchCompat

/-! ## Free values -/

/-- The n-th unspecified 32-bit value the machine draws. No body: nothing can be proved about any of them. A
step that needs one applies it to the counter `free` of State and advances the counter (93 U3, U4, U6; log 8);
safe. -/
opaque Config.freeWord : Nat → Word

end Sys2Proof
end

