-- ==== Sys2Proof/Machine/Prims.lean ====
section
/-! DEFINITION. The arithmetic primitives of 00_scope.md R6 and R7: the whole arithmetic of the block. -/

namespace Sys2Proof.Machine

/-- `add32`: the sum modulo 2^32 (R6). -/
def add32 (a b : Word) : Word := a + b

/-- `carry32`: whether the sum in unbounded integers reaches 2^32 (R6). -/
def carry32 (a b : Word) : Bool := decide (2 ^ 32 ≤ a.toNat + b.toNat)

/-- `mul32`: the low 32 bits of the product (R6). -/
def mul32 (a b : Word) : Word := a * b

/-- `not32`: bitwise complement (R6). -/
def not32 (a : Word) : Word := ~~~a

/-- `shr32`: logical right shift (R6). -/
def shr32 (a : Word) (n : Nat) : Word := a >>> n

/-- `rotl32`: rotate left. The amount has 5 bits, so the rotation by 32 that the document leaves undefined cannot
be written (R6, R115; 93 U2). -/
def rotl32 (x : Word) (n : BitVec 5) : Word := x.rotateLeft n.toNat

/-- `ugt`: unsigned greater-than (R6). -/
def ugt (a b : Word) : Bool := decide (b.toNat < a.toNat)

/-- `zext_32`: a byte as a 32-bit value, the only widening of the block (R7). -/
def zext32 (b : Byte) : Word := b.setWidth 32

/-- `v & 0xFF` as the 8-bit index it is (R92). -/
def low8 (v : Word) : BitVec 8 := v.setWidth 8

/-- `d & 0x1F` as the 5-bit amount it is (R115). -/
def low5 (v : Word) : BitVec 5 := v.setWidth 5

end Sys2Proof.Machine
end

