-- ==== Sys2Proof/Machine/Table.lean ====
section
/-! DEFINITION. Generation of the CRC-32 table (40_crc32_digest.md R90). -/

namespace Sys2Proof.Machine

/-- One of the eight iterations of `tblgen`: the low bit is tested before the shift (R90). -/
def crcBitStep (c : Word) : Word :=
  if c.getLsbD 0 then shr32 c 1 ^^^ Config.poly else shr32 c 1

/-- `k` iterations of the bit step. -/
def crcBitSteps : Nat → Word → Word
  | 0, c     => c
  | k + 1, c => crcBitSteps k (crcBitStep c)

/-- `tblgen(i)`: eight iterations from the index itself (R90). -/
def tblgen (i : BitVec 8) : Word := crcBitSteps 8 (zext32 i)

/-- The table reset builds: `TBL[i] = tblgen(i)` for `i` in 0..255 (R90, R170). Irreducible, so that the elaborator never
writes its 256 entries out; `tableEntry_generatedTable` says what it holds. -/
@[irreducible] def generatedTable : Vector Word 256 := Vector.ofFn fun i => tblgen ⟨i⟩

end Sys2Proof.Machine
end

