-- ==== Sys2Proof/Machine/State.lean ====
section
/-! DEFINITION. The state of the block (10_state.md R20 to R38), its state after reset, and the reasons a step can
stop. -/

namespace Sys2Proof.Machine

/-- The image buffer: (offset, byte) pairs in one canonical form, offsets strictly rising and no entry equal to what
an unlisted offset reads as (R50). -/
abbrev Memory := List Host.Cell

/-- What an unlisted offset reads as. DESIGN CHOICE 0: the buffer is the host's and the spec gives it no contents
before the host places an image (R38; log 3); unsafe. -/
def unlistedByte : Byte := 0

/-- The accumulator state: the seven working registers `t1` to `t7` (R21). -/
structure Acc where
  t1 : Word
  t2 : Word
  t3 : Word
  t4 : Word
  t5 : Word
  t6 : Word
  t7 : Word
  deriving DecidableEq, Repr

/-- Everything R20 lists, and three fields of the model's own (`inbox`, `returned`, `free`). -/
structure State where
  /-- `MEM`, the image buffer; `LEN` is its size (R36, R30). -/
  mem : Memory
  /-- `TBL`, filled by reset and never written afterwards (R23). -/
  tbl : Vector Word 256
  /-- `crc`, the digest's running value; scratch (R24). -/
  crc : Word
  /-- `t1`..`t7`; scratch (R21). -/
  acc : Acc
  /-- `off`, the loop offset; scratch (R22). -/
  off : Word
  /-- `ARG0`, register 1 (R29). -/
  arg0 : Word
  /-- `ARG1`, register 2 (R29). -/
  arg1 : Word
  /-- `LEN`, register 3 (R30). -/
  len : Word
  /-- `STATUS`, register 4: `CODE` = [2:0] (R34). -/
  status : Word
  /-- `DGST`, register 5 (R31). -/
  dgst : Word
  /-- `IDR`, register 6: `ID` = [2:0], `MATCH` = [3] (R32). -/
  idr : Word
  /-- `RES0`, register 7 (R33). -/
  res0 : Word
  /-- `RES1`, register 8 (R33). -/
  res1 : Word
  /-- `FLAGS`, register 9: `FIX0` = [0], `FIX1` = [1], `RVALID` = [2] (R35). -/
  flags : Word
  /-- The model's own: the host's coming actions, oldest first. A command word is in it until it is issued;
  `CMD` itself holds nothing (R28, R64, R77; log 1, 2). -/
  inbox : List HostAction
  /-- The model's own: what the host's register reads returned, newest first (R76; log 16). -/
  returned : List Word
  /-- The model's own: how many free values have been drawn (log 8). -/
  free : Nat
  deriving DecidableEq, Repr

/-- The faults of the machine. -/
inductive Fault where
  /-- `fault RangeUndefined`: raised by `DIGEST` when `ARG0 + ARG1 > LEN` and by `IDENT` when `LEN < 0x1000`, which the
  document calls undefined and to which it gives no effect (R94, R145; log 13). Safe. -/
  | rangeUndefined
  deriving DecidableEq, Repr

/-- The refusals of the machine. -/
inductive Refusal where
  /-- Raised by an arm of `exec` for an instruction without a meaning. No arm raises it. Safe. -/
  | notModelled (mnemonic : String)
  deriving DecidableEq, Repr

/-- All seven working registers at one value (R113). -/
def Acc.all (s : Word) : Acc :=
  { t1 := s, t2 := s, t3 := s, t4 := s, t5 := s, t6 := s, t7 := s }

/-- The machine right after reset (R38, R170): the table built, `STATUS`, `IDR` and `FLAGS` 0. The values of `ARG0`,
`ARG1`, `LEN`, `DGST`, `RES0`, `RES1` and the scratch state are DESIGN CHOICE 0: the spec states none (log 5, 6, 7);
unsafe. The buffer lists nothing and the host has nothing to do. -/
def State.reset : State where
  mem := []
  tbl := generatedTable
  crc := 0
  acc := Acc.all 0
  off := 0
  arg0 := 0
  arg1 := 0
  len := 0
  status := 0
  dgst := 0
  idr := 0
  res0 := 0
  res1 := 0
  flags := 0
  inbox := []
  returned := []
  free := 0

end Sys2Proof.Machine
end

