-- ==== Sys2Proof/Machine/Flags.lean ====
section
/-! DEFINITION. The fields of `STATUS`, `IDR` and `FLAGS` (10_state.md R32, R34, R35) and the error codes
(60_exceptions.md R140). The block has no arithmetic flags (R35). -/

namespace Sys2Proof.Machine

/-- The four errors (R140). -/
inductive ErrorKind where
  | unsupportedBootChip
  | truncatedImage
  | noResult
  | illegalCommand
  deriving DecidableEq, Repr

/-- `CODE` of a command that completes (R140). -/
def codeOk : BitVec 3 := 0

/-- `CODE` of an error (R140). -/
def errorCode : ErrorKind → BitVec 3
  | .unsupportedBootChip => 1
  | .truncatedImage      => 2
  | .noResult            => 3
  | .illegalCommand      => 4

/-- `STATUS` holding a code: [2:0] is `CODE`, [31:3] are zero (R34). -/
def statusWord (c : BitVec 3) : Word := c.setWidth 32

/-- `STATUS.CODE` (R34). -/
def statusCode (w : Word) : BitVec 3 := w.setWidth 3

/-- `IDR` holding an answer of `IDENT`: [2:0] is `ID`, [3] is `MATCH`, [31:4] are zero (R32). -/
def idrWord (id : BitVec 3) (matched : Bool) : Word := (BitVec.ofBool matched ++ id).setWidth 32

/-- `IDR.ID` (R32). -/
def idrId (w : Word) : BitVec 3 := w.setWidth 3

/-- `IDR.MATCH` (R32). -/
def idrMatch (w : Word) : Bool := w.getLsbD 3

/-- Bit `k` of a register set to `b`, every other bit as it was. -/
def putBit (w : Word) (k : Nat) (b : Bool) : Word :=
  if b then w ||| BitVec.twoPow 32 k else w &&& ~~~(BitVec.twoPow 32 k)

/-- `FLAGS.FIX0` (R35). -/
def flagFix0 (w : Word) : Bool := w.getLsbD 0

/-- `FLAGS.FIX1` (R35). -/
def flagFix1 (w : Word) : Bool := w.getLsbD 1

/-- `FLAGS.RVALID` (R35). -/
def flagRvalid (w : Word) : Bool := w.getLsbD 2

/-- `FLAGS` with `RVALID` set to `b`, `FIX0` and `FIX1` unchanged (R35). -/
def putRvalid (w : Word) (b : Bool) : Word := putBit w 2 b

/-- `FLAGS` with `FIX0` and `FIX1` set, `RVALID` unchanged (R35). -/
def putFixes (w : Word) (fix0 fix1 : Bool) : Word := putBit (putBit w 0 fix0) 1 fix1

/-- `STATUS` as the host reads it: [31:3] read as zero (R34). DEDUCED that the read does it (log 15); safe. -/
def statusRead (w : Word) : Word := w &&& 0x7#32

/-- `IDR` as the host reads it: [31:4] read as zero (R32; log 15); safe. -/
def idrRead (w : Word) : Word := w &&& 0xF#32

/-- `FLAGS` as the host reads it: [31:3] read as zero (R27; log 15); safe. -/
def flagsRead (w : Word) : Word := w &&& 0x7#32

end Sys2Proof.Machine
end

