-- ==== Sys2Proof/Machine/Ops.lean ====
section
/-! DEFINITION. The named operations over the image buffer and the registers, the free values, and the taking of an
error (20_memory.md R50 to R53, 60_exceptions.md R148). -/

namespace Sys2Proof.Machine

/-! ## The image buffer -/

/-- The byte at an offset (R51). The block reads only offsets below `LEN`: each command checks its region first. -/
def Memory.read : Memory → Nat → Byte
  | [], _        => unlistedByte
  | c :: rest, a => if c.1 = a then c.2 else Memory.read rest a

/-- The buffer with one byte changed, in canonical form. -/
def Memory.write : Memory → Nat → Byte → Memory
  | [], a, b => if b = unlistedByte then [] else [(a, b)]
  | c :: rest, a, b =>
    if a < c.1 then (if b = unlistedByte then c :: rest else (a, b) :: c :: rest)
    else if a = c.1 then (if b = unlistedByte then rest else (a, b) :: rest)
    else c :: Memory.write rest a b

/-- Canonical form from an offset on: offsets rising strictly from `lo`, 32 bits wide (R50), no unlisted byte listed. -/
def Memory.wfFrom : Nat → Memory → Bool
  | _, []         => true
  | lo, c :: rest =>
    decide (lo ≤ c.1) && decide (c.1 < 2 ^ 32) && decide (c.2 ≠ unlistedByte) && Memory.wfFrom (c.1 + 1) rest

/-- The buffer is in canonical form, so that equal buffers are equal lists. -/
def Memory.wf (m : Memory) : Bool := Memory.wfFrom 0 m

/-- `MemRead(a, 4)`: big-endian, the byte at the lowest offset most significant (R51, R53). -/
def Memory.read32 (m : Memory) (a : Nat) : Word :=
  m.read a ++ m.read (a + 1) ++ m.read (a + 2) ++ m.read (a + 3)

/-- `MemWrite(a, 4, v)`: big-endian (R52). -/
def Memory.write32 (m : Memory) (a : Nat) (v : Word) : Memory :=
  (((m.write a (v.extractLsb' 24 8)).write (a + 1) (v.extractLsb' 16 8)).write (a + 2)
    (v.extractLsb' 8 8)).write (a + 3) (v.extractLsb' 0 8)

/-! ## The table -/

/-- `TBL[i]` (R23). -/
def tableEntry (tbl : Vector Word 256) (i : BitVec 8) : Word := tbl.get i.toFin

/-! ## The registers -/

/-- `STATUS.CODE <- c` (R34). -/
def State.setCode (s : State) (c : BitVec 3) : State := { s with status := statusWord c }

/-- `DGST <- v` (R31). -/
def State.setDgst (s : State) (v : Word) : State := { s with dgst := v }

/-- `IDR.ID <- id`, `IDR.MATCH <- matched` (R32). -/
def State.setIdr (s : State) (id : BitVec 3) (matched : Bool) : State :=
  { s with idr := idrWord id matched }

/-- `RES0 <- w0`, `RES1 <- w1` (R33). -/
def State.setResult (s : State) (w0 w1 : Word) : State := { s with res0 := w0, res1 := w1 }

/-- `FLAGS.RVALID <- b` (R35). -/
def State.setRvalid (s : State) (b : Bool) : State := { s with flags := putRvalid s.flags b }

/-- `FLAGS.FIX0 <- fix0`, `FLAGS.FIX1 <- fix1` (R35). -/
def State.setFixes (s : State) (fix0 fix1 : Bool) : State :=
  { s with flags := putFixes s.flags fix0 fix1 }

/-- The buffer replaced. -/
def State.setMem (s : State) (m : Memory) : State := { s with mem := m }

/-- `ARG0 <- v` (R29). -/
def State.setArg0 (s : State) (v : Word) : State := { s with arg0 := v }

/-- `ARG1 <- v` (R29). -/
def State.setArg1 (s : State) (v : Word) : State := { s with arg1 := v }

/-- `LEN <- v` (R30). -/
def State.setLen (s : State) (v : Word) : State := { s with len := v }

/-- A register read returns `v` to the host (log 16). -/
def State.giveBack (s : State) (v : Word) : State := { s with returned := v :: s.returned }

/-- The host's coming actions replaced. -/
def State.setInbox (s : State) (l : List HostAction) : State := { s with inbox := l }

/-! ## Free values (log 8) -/

/-- The digest's running value has no specified contents once a digest is finished (R24, R37; 93 U4; log 7). -/
def State.discardCrc (s : State) : State :=
  { s with crc := Config.freeWord s.free, free := s.free + 1 }

/-- Seven free values as the working registers. -/
def freeAcc (n : Nat) : Acc where
  t1 := Config.freeWord n
  t2 := Config.freeWord (n + 1)
  t3 := Config.freeWord (n + 2)
  t4 := Config.freeWord (n + 3)
  t5 := Config.freeWord (n + 4)
  t6 := Config.freeWord (n + 5)
  t7 := Config.freeWord (n + 6)

/-- The accumulator state is discarded after the result pair is formed (R21, R37; 93 U4; log 7). -/
def State.discardAcc (s : State) : State :=
  { s with acc := freeAcc s.free, off := Config.freeWord (s.free + 7), free := s.free + 8 }

/-- `RES0` and `RES1` become unspecified (R33, R148; 93 U3; log 6). -/
def State.discardResult (s : State) : State :=
  { s with res0 := Config.freeWord s.free, res1 := Config.freeWord (s.free + 1), free := s.free + 2 }

/-- A register read returns a value the spec leaves open (93 U3, U6; log 6, 9). -/
def State.giveFree (s : State) : State :=
  { s with returned := Config.freeWord s.free :: s.returned, free := s.free + 1 }

/-! ## Taking an error -/

/-- `raise E`, the trap entry of this hardware (R148): `STATUS.CODE` becomes the code of `E`; where the command is
`CKSUM`, `FLAGS.RVALID` becomes 0 and `RES0`, `RES1` unspecified; nothing else changes. There is nothing to save, no
vector, no handler and so no return operation: the next command simply overwrites `STATUS` (R149). -/
def raiseError (e : ErrorKind) (byCksum : Bool) (s : State) : State :=
  (if byCksum then (s.setRvalid false).discardResult else s).setCode (errorCode e)

/-- `raise E` by `CKSUM` (R119, R148). -/
def raiseByCksum (e : ErrorKind) (s : State) : State := raiseError e true s

/-- `raise E` by `PATCH` or by the decoder (R133, R144, R148). -/
def raisePlain (e : ErrorKind) (s : State) : State := raiseError e false s

/-- Do `f` in the state an outcome gives, if it gives one. -/
def andThen (o : Host.Outcome State Fault Refusal) (f : State → Host.Outcome State Fault Refusal) :
    Host.Outcome State Fault Refusal :=
  match o with
  | .next s    => f s
  | .fault r   => .fault r
  | .refused r => .refused r

end Sys2Proof.Machine
end

