-- ==== Sys2Proof/Machine/Operands.lean ====
section
/-! DEFINITION. The operands of the commands: the identity code of the command word, the `DIGEST` range, and the ten
host registers (30_encoding.md R71, 40_crc32_digest.md R93, 10_state.md R27). -/

namespace Sys2Proof.Machine

/-- The identity a code names; 0, 4 and 7 name none (R71). -/
def identityOfCode (c : BitVec 3) : Option Identity :=
  if c = 1 then some .v1
  else if c = 2 then some .v2
  else if c = 3 then some .v3
  else if c = 5 then some .v5
  else if c = 6 then some .v6
  else none

/-- Seed selection (R111). -/
def seed (p : Config.Params) : Identity → Word
  | .v1 => p.seedA
  | .v2 => p.seedA
  | .v3 => p.seedB
  | .v5 => p.seedC
  | .v6 => p.seedD

/-- `start + n <= LEN`, the sum taken in unbounded integers (R50, R92, 92 D23). -/
def rangeInBuffer (s : State) (start n : Nat) : Bool := decide (start + n ≤ s.len.toNat)

/-- The number of a register (R27). -/
def regNumber : Reg → Nat
  | .cmd => 0
  | .arg0 => 1
  | .arg1 => 2
  | .len => 3
  | .status => 4
  | .dgst => 5
  | .idr => 6
  | .res0 => 7
  | .res1 => 8
  | .flags => 9

/-- The register of a number; there are ten (R27). -/
def regOfNumber : Nat → Option Reg
  | 0 => some .cmd
  | 1 => some .arg0
  | 2 => some .arg1
  | 3 => some .len
  | 4 => some .status
  | 5 => some .dgst
  | 6 => some .idr
  | 7 => some .res0
  | 8 => some .res1
  | 9 => some .flags
  | _ => none

/-- A host write of a register other than `CMD`: the three operand registers take the value, a write to a read-only
register is ignored (R27, R29, R30). A write of `CMD` is a command and is `issue`'s; `CMD` holds nothing (R28). -/
def writeReg (r : Reg) (v : Word) (s : State) : State :=
  match r with
  | .arg0 => s.setArg0 v
  | .arg1 => s.setArg1 v
  | .len => s.setLen v
  | .cmd | .status | .dgst | .idr | .res0 | .res1 | .flags => s

/-- A host read of a register. `CMD` is write-only and returns any value (R27, 93 U6); `RES0` and `RES1` return any value
while `RVALID` is 0 (R33, 93 U3); reserved bits read as zero (R32, R34). -/
def readReg (r : Reg) (s : State) : State :=
  match r with
  | .cmd => s.giveFree
  | .arg0 => s.giveBack s.arg0
  | .arg1 => s.giveBack s.arg1
  | .len => s.giveBack s.len
  | .status => s.giveBack (statusRead s.status)
  | .dgst => s.giveBack s.dgst
  | .idr => s.giveBack (idrRead s.idr)
  | .res0 => if flagRvalid s.flags then s.giveBack s.res0 else s.giveFree
  | .res1 => if flagRvalid s.flags then s.giveBack s.res1 else s.giveFree
  | .flags => s.giveBack (flagsRead s.flags)

end Sys2Proof.Machine
end

