-- ==== Sys2Proof/Machine/Checksum.lean ====
section
/-! DEFINITION. The 32-bit checksum accumulator and the `CKSUM` command (42_checksum_accumulator.md R110 to R119). -/

namespace Sys2Proof.Machine

/-- Step 1: a carry out of `t6 + d` increments `t4`; the old `t6` is tested (R114, R116). -/
def accCarry (d : Word) (a : Acc) : Acc :=
  if carry32 a.t6 d then { a with t4 := add32 a.t4 1 } else a

/-- Steps 2 and 3: `t6` takes the sum, `t3` the exclusive or (R114). -/
def accSum (d : Word) (a : Acc) : Acc :=
  { a with t6 := add32 a.t6 d, t3 := a.t3 ^^^ d }

/-- `r` of step 4: the word rotated left by its own low five bits (R115). -/
def rotatedWord (d : Word) : Word := rotl32 d (low5 d)

/-- Step 5: `t5` takes the rotated word (R114). -/
def accRotated (d : Word) (a : Acc) : Acc :=
  { a with t5 := add32 a.t5 (rotatedWord d) }

/-- Step 6: the old `t2` is compared with `d`; the else branch uses the new `t6` (R114). -/
def accMix (d : Word) (a : Acc) : Acc :=
  if ugt a.t2 d then { a with t2 := a.t2 ^^^ rotatedWord d }
  else { a with t2 := a.t2 ^^^ (a.t6 ^^^ d) }

/-- Step 7: V5 loads `t7` with the auxiliary word and adds `t7 XOR d`; the others add the new `t5 XOR d` (R114, R117). -/
def accVariant (idn : Identity) (d aux : Word) (a : Acc) : Acc :=
  if idn = .v5 then { a with t7 := aux, t1 := add32 a.t1 (aux ^^^ d) }
  else { a with t1 := add32 a.t1 (a.t5 ^^^ d) }

/-- The seven steps of one iteration, in order, on a word `d` and the auxiliary word, which only V5 uses (R114). -/
def accStep (idn : Identity) (d aux : Word) (a : Acc) : Acc :=
  accVariant idn d aux (accMix d (accRotated d (accSum d (accCarry d a))))

/-- Where the word of loop offset `off` lies (R112). -/
def wordAddr (off : Word) : Nat := Config.ckStart + off.toNat

/-- Where the auxiliary word of loop offset `off` lies (R117). -/
def auxAddr (off : Word) : Nat := Config.auxBase + (off &&& Config.auxMask).toNat

/-- `iterate(off, idn)` (R114). -/
def iterate (m : Memory) (idn : Identity) (off : Word) (a : Acc) : Acc :=
  accStep idn (m.read32 (wordAddr off)) (m.read32 (auxAddr off)) a

/-- `off` of iteration number `k`: 4 * k (R22, R112). -/
def loopOffset (k : Nat) : Word := BitVec.ofNat 32 (4 * k)

/-- The working registers after the first `k` iterations, all seven at the seed before the first (R112, R113). -/
def accAfter (p : Config.Params) (m : Memory) (idn : Identity) : Nat → Acc
  | 0     => Acc.all (seed p idn)
  | k + 1 => iterate m idn (loopOffset k) (accAfter p m idn k)

/-- The final combination (R118). -/
def combine (idn : Identity) (a : Acc) : Word × Word :=
  match idn with
  | .v3 => (add32 (a.t6 ^^^ a.t4) a.t3, add32 (a.t5 ^^^ a.t2) a.t1)
  | .v6 => (add32 (mul32 a.t6 a.t4) a.t3, add32 (mul32 a.t5 a.t2) a.t1)
  | .v1 | .v2 | .v5 => ((a.t6 ^^^ a.t4) ^^^ a.t3, (a.t5 ^^^ a.t2) ^^^ a.t1)

/-- `computeChecksum` past its two checks: 262144 iterations and the final combination (R112, R118). -/
def computeChecksum (p : Config.Params) (m : Memory) (idn : Identity) : Word × Word :=
  combine idn (accAfter p m idn Config.ckWords)

/-- `CKSUM id` (R119): the identity is checked first, then the length (R110). -/
def execCksum (id : BitVec 3) (s : State) : Host.Outcome State Fault Refusal :=
  match identityOfCode id with
  | none => .next (raiseByCksum .unsupportedBootChip s)
  | some idn =>
    if s.len.toNat < Config.minLen then .next (raiseByCksum .truncatedImage s)
    else
      let words := computeChecksum Config.params s.mem idn
      .next ((((s.setResult words.1 words.2).setRvalid true).discardAcc).setCode codeOk)

end Sys2Proof.Machine
end

