-- ==== Sys2Proof/Machine/Digest.lean ====
section
/-! DEFINITION. The CRC-32 digest engine and the `DIGEST` command (40_crc32_digest.md R92, R93). -/

namespace Sys2Proof.Machine

/-- One step of the digest: the index is formed from the running value before the shift (R92). -/
def crcStep (tbl : Vector Word 256) (crc : Word) (b : Byte) : Word :=
  shr32 crc 8 ^^^ tableEntry tbl (low8 (crc ^^^ zext32 b))

/-- The running value `crc` after the first `n` bytes from `start`, in increasing offset order (R92). -/
def digestRun (tbl : Vector Word 256) (m : Memory) (start : Nat) : Nat → Word
  | 0     => Config.crcInit
  | n + 1 => crcStep tbl (digestRun tbl m start n) (m.read (start + n))

/-- `digest(start, n)`: the complement of the final running value (R92). -/
def digest (tbl : Vector Word 256) (m : Memory) (start n : Nat) : Word := not32 (digestRun tbl m start n)

/-- `DIGEST` (R93). A range that leaves the buffer is the document's undefined case, a fault (R94, R145). -/
def execDigest (s : State) : Host.Outcome State Fault Refusal :=
  if rangeInBuffer s s.arg0.toNat s.arg1.toNat then
    .next (((s.setDgst (digest s.tbl s.mem s.arg0.toNat s.arg1.toNat)).discardCrc).setCode codeOk)
  else .fault .rangeUndefined

end Sys2Proof.Machine
end

