-- ==== Sys2Proof/Machine/Identify.lean ====
section
/-! DEFINITION. The boot-chip fingerprint matcher and the `IDENT` command (41_bootchip_identify.md R100 to R103). -/

namespace Sys2Proof.Machine

/-- `fp = digest(0x40, 0xFC0)` (R100). -/
def fingerprint (tbl : Vector Word 256) (m : Memory) : Word := digest tbl m Config.fpStart Config.fpLen

/-- `match(fp)`: the identity and whether the fingerprint is one of the five constants; V5 and false for any other
(R101, R102). -/
def matchFingerprint (fp : Word) : Identity × Bool :=
  if fp = Config.fpV1 then (.v1, true)
  else if fp = Config.fpV2 then (.v2, true)
  else if fp = Config.fpV3 then (.v3, true)
  else if fp = Config.fpV5 then (.v5, true)
  else if fp = Config.fpV6 then (.v6, true)
  else (.v5, false)

/-- `IDENT` (R103). A buffer shorter than the fingerprint region is the undefined case, a fault (R145). -/
def execIdent (s : State) : Host.Outcome State Fault Refusal :=
  if rangeInBuffer s Config.fpStart Config.fpLen then
    let fp := fingerprint s.tbl s.mem
    let answer := matchFingerprint fp
    .next ((((s.setDgst fp).setIdr (identityCode answer.1) answer.2).discardCrc).setCode codeOk)
  else .fault .rangeUndefined

end Sys2Proof.Machine
end

