-- ==== Sys2Proof/Machine/Patch.lean ====
section
/-! DEFINITION. The header compare and patch, and the `PATCH` command (43_header_patch.md R130 to R133). -/

namespace Sys2Proof.Machine

/-- The buffer with a header field rewritten where it is to be (R131). -/
def patchField (m : Memory) (a : Nat) (fix : Bool) (v : Word) : Memory :=
  if fix then m.write32 a v else m

/-- What the second stored field is compared with: `word1`, or `word0` under `PATCH_COMPAT = 1` (R132). -/
def secondOperand (compat : Bool) (word0 word1 : Word) : Word := if compat then word0 else word1

/-- `fix0`: the first stored field differs from `word0` (R131). -/
def needsFix0 (m : Memory) (word0 : Word) : Bool := decide (word0 ≠ m.read32 Config.crc1Off)

/-- `fix1`: the second stored field differs from the word it is compared with (R131, R132). -/
def needsFix1 (compat : Bool) (m : Memory) (word0 word1 : Word) : Bool :=
  decide (secondOperand compat word0 word1 ≠ m.read32 Config.crc2Off)

/-- `patch(word0, word1)` (R131, R132): the buffer afterwards, `fix0` and `fix1`. The second field is read after the first
is written; the value written there is `word1` under both settings. -/
def patch (p : Config.Params) (m : Memory) (word0 word1 : Word) : Memory × Bool × Bool :=
  let fix0 := needsFix0 m word0
  let m1 := patchField m Config.crc1Off fix0 word0
  let fix1 := needsFix1 p.patchCompat m1 word0 word1
  (patchField m1 Config.crc2Off fix1 word1, fix0, fix1)

/-- `PATCH` (R133): `NoResult` is checked first, then the length. -/
def execPatch (s : State) : Host.Outcome State Fault Refusal :=
  if flagRvalid s.flags = false then .next (raisePlain .noResult s)
  else if s.len.toNat < Config.patchMinLen then .next (raisePlain .truncatedImage s)
  else
    let r := patch Config.params s.mem s.res0 s.res1
    .next (((s.setMem r.1).setFixes r.2.1 r.2.2).setCode codeOk)

end Sys2Proof.Machine
end

