-- ==== Sys2Proof/Machine/Dispatch.lean ====
section
/-! DEFINITION. Each command's meaning (30_encoding.md R72). -/

namespace Sys2Proof.Machine

open Sys2Proof

def exec (i : Instr) (s : State) : Host.Outcome State Fault Refusal :=
  match i with
  | .digest => Sys2Proof.Machine.execDigest s
  | .ident => Sys2Proof.Machine.execIdent s
  | .cksum id => Sys2Proof.Machine.execCksum id s
  | .patch => Sys2Proof.Machine.execPatch s

end Sys2Proof.Machine
end

