-- ==== Sys2Proof/Machine/HostPort.lean ====
section
/-! DEFINITION. What the host's actions do: issuing a command word, plain register accesses, changing the buffer, reset
(10_state.md R27, R28; 30_encoding.md R73, R77; 20_memory.md R64; 70_reset_and_hazards.md R170). -/

namespace Sys2Proof.Machine

/-- A write of `CMD`: the word is decoded and its command runs to completion; an illegal word sets `STATUS` and changes
nothing else (R28, R73, R75, R77). -/
def issue (w : Word) (s : State) : Host.Outcome State Fault Refusal :=
  match decode w with
  | .command i => exec i s
  | .illegal _ => .next (raisePlain .illegalCommand s)

/-- Reset (R170): every register, the table and the scratch state as at `State.reset`; the image buffer is not touched. What
belongs to the host and to the model (`inbox`, `returned`, `free`) stays (log 17). -/
def applyReset (s : State) : State :=
  { State.reset with mem := s.mem, inbox := s.inbox, returned := s.returned, free := s.free }

/-- One action of the host (R64, R77, R179). -/
def hostAct (a : HostAction) (s : State) : Host.Outcome State Fault Refusal :=
  match a with
  | .write .cmd w => issue w s
  | .write r v    => .next (writeReg r v s)
  | .read r       => .next (readReg r s)
  | .poke a b     => .next (s.setMem (s.mem.write a.toNat b))
  | .reset        => .next (applyReset s)

/-- The block takes the host's next action; with none, it waits and nothing changes (R77, R179; log 2). -/
def takeAction (s : State) : Host.Outcome State Fault Refusal :=
  match s.inbox with
  | []        => .next s
  | a :: rest => hostAct a (s.setInbox rest)

/-- The state in which the host's very next action is to write a command word to `CMD` (log 2). -/
def withCommandWord (s : State) (w : Word) : State := s.setInbox (.write .cmd w :: s.inbox)

/-- The value the last register read returned. -/
def lastReturned (s : State) : Word := s.returned.headD 0

/-- `REPAIR`, the host procedure of R78: `IDENT; RD IDR; CKSUM <IDR.ID>; RD STATUS; if STATUS.CODE == 0 then PATCH`. Each
part is a host action; the `CKSUM` word depends on the value read. -/
def repair (s : State) : Host.Outcome State Fault Refusal :=
  andThen (hostAct (.write .cmd (encode .ident)) s) fun s1 =>
  andThen (hostAct (.read .idr) s1) fun s2 =>
  andThen (hostAct (.write .cmd (encode (.cksum (idrId (lastReturned s2))))) s2) fun s3 =>
  andThen (hostAct (.read .status) s3) fun s4 =>
  if statusCode (lastReturned s4) = codeOk then hostAct (.write .cmd (encode .patch)) s4 else .next s4

end Sys2Proof.Machine
end

