-- ==== Sys2Proof/Machine/Step.lean ====
section
/-! DEFINITION. One step of the machine: the block takes the host's next action (30_encoding.md R77). -/

namespace Sys2Proof.Machine

/-- One step: the next action of `inbox`, or idling when there is none. -/
def step (s : State) : Host.Outcome State Fault Refusal := takeAction s

/-- `s` with the command word whose bits are `w` as the host's very next write of `CMD`, so that the next step runs it.
The bits from `nbits` up are 0. -/
def State.withFetchWord (s : State) (nbits w : Nat) : State :=
  withCommandWord s (BitVec.ofNat 32 (w % 2 ^ nbits))

end Sys2Proof.Machine
end

