-- ==== Sys2Proof/Safety.lean ====
section
/-! DEFINITION. The terms the claims use: the invariant, the host's duties, what "unchanged" means, and reference forms of
the digest and of the accumulator's sums that do not go through the model's loops. -/

namespace Sys2Proof.Safety

open Sys2Proof Sys2Proof.Machine

/-! ## The invariant -/

/-- The buffer is in canonical form. -/
abbrev BufferCanonical (s : State) : Prop := s.mem.wf = true

/-- The table is the generated one (R90, R91). -/
def TableBuilt (s : State) : Prop := s.tbl = generatedTable

/-- `CODE` is 0 to 4 and the reserved bits of `STATUS` are zero (R34, R140). -/
abbrev StatusLegal (s : State) : Prop := s.status.toNat ≤ 4

/-- `IDR` is 0 (no identification made), or 5 (default, `MATCH` = 0), or one of the five identities with `MATCH` = 1 (R32,
R101). -/
abbrev IdrLegal (s : State) : Prop :=
  s.idr ∈ [0x0#32, 0x5#32, 0x9#32, 0xA#32, 0xB#32, 0xD#32, 0xE#32]

/-- The reserved bits of `FLAGS` are zero (R27). -/
abbrev FlagsLegal (s : State) : Prop := s.flags.toNat < 8

/-- The invariant of the machine. -/
def MachineInv (s : State) : Prop :=
  BufferCanonical s ∧ TableBuilt s ∧ StatusLegal s ∧ IdrLegal s ∧ FlagsLegal s

/-! ## Safe commands and safe runs -/

/-- The host keeps its duty about the range a command digests (R176); every other command has no such duty. -/
def RangeDuty (i : Instr) (s : State) : Prop :=
  match i with
  | .digest  => s.arg0.toNat + s.arg1.toNat ≤ s.len.toNat
  | .ident   => 0x1000 ≤ s.len.toNat
  | .cksum _ => True
  | .patch   => True

/-- A run of `n` steps meets no fault and no refusal. -/
def SafeRun (n : Nat) (s : State) : Prop := ∃ t, Sys2Proof.core.run n s = .next t

/-! ## What is unchanged -/

/-- `ARG0`, `ARG1` and `LEN` are unchanged. -/
def SameOperands (s t : State) : Prop := t.arg0 = s.arg0 ∧ t.arg1 = s.arg1 ∧ t.len = s.len

/-- The host's coming actions and what its reads returned are unchanged. -/
def SameHost (s t : State) : Prop := t.inbox = s.inbox ∧ t.returned = s.returned

/-- `RES0` and `RES1` are unchanged. -/
def SameResult (s t : State) : Prop := t.res0 = s.res0 ∧ t.res1 = s.res1

/-- The working registers and the loop offset are unchanged. -/
def SameAcc (s t : State) : Prop := t.acc = s.acc ∧ t.off = s.off

/-- Every byte of the buffer is unchanged. -/
def SameBuffer (s t : State) : Prop := ∀ a, t.mem.read a = s.mem.read a

/-- Two buffers hold the same bytes in `[lo, hi)`. -/
def AgreeOn (lo hi : Nat) (m m' : Memory) : Prop := ∀ a, lo ≤ a → a < hi → m.read a = m'.read a

/-! ## Reference forms -/

/-- The CRC-32 running value taken bit by bit, with no table (R96 (a)). -/
def bitwiseRun (m : Memory) (start : Nat) : Nat → Word
  | 0     => 0xFFFFFFFF#32
  | n + 1 => crcBitSteps 8 (bitwiseRun m start n ^^^ zext32 (m.read (start + n)))

/-- The CRC-32 of `n` bytes, with no table. -/
def bitwiseCrc (m : Memory) (start n : Nat) : Word := ~~~(bitwiseRun m start n)

/-- Word number `k` of the checksum region (R112). -/
def regionWord (m : Memory) (k : Nat) : Word := m.read32 (0x1000 + 4 * k)

/-- The sum of the first `k` words in unbounded integers (R116). -/
def wordSum (m : Memory) : Nat → Nat
  | 0     => 0
  | k + 1 => wordSum m k + (regionWord m k).toNat

/-- The exclusive or of the first `k` words (R21). -/
def wordXor (m : Memory) : Nat → Word
  | 0     => 0
  | k + 1 => wordXor m k ^^^ regionWord m k

/-- The sum of the first `k` rotated words in unbounded integers (R21, R115). -/
def rotatedSum (m : Memory) : Nat → Nat
  | 0     => 0
  | k + 1 => rotatedSum m k + (rotatedWord (regionWord m k)).toNat

end Sys2Proof.Safety
end

