-- ==== Sys2Proof/Certificates/Slice0/Obligations.lean ====
section
/-! DEFINITION. The statements for the provers. Each says which numbered rule of spec/ it formalises. -/

open Sys2Proof Sys2Proof.Machine Sys2Proof.Safety

/-! ## Primitives and memory -/

/-- R6, every row of its table: what each primitive is, in unbounded integers or bit by bit. -/
def Obligations.PrimitivesFollowTheirTable : Prop :=
  (∀ a b : Word, (add32 a b).toNat = (a.toNat + b.toNat) % 2 ^ 32) ∧
  (∀ a b : Word, carry32 a b = true ↔ 2 ^ 32 ≤ a.toNat + b.toNat) ∧
  (∀ a b : Word, carry32 a b = true ↔ (add32 a b).toNat < a.toNat) ∧
  (∀ a b : Word, (mul32 a b).toNat = (a.toNat * b.toNat) % 2 ^ 32) ∧
  (∀ (a b : Word) (k : Nat), (a ^^^ b).getLsbD k = (a.getLsbD k ^^ b.getLsbD k)) ∧
  (∀ (a b : Word) (k : Nat), (a &&& b).getLsbD k = (a.getLsbD k && b.getLsbD k)) ∧
  (∀ a : Word, (not32 a).toNat = 0xFFFFFFFF - a.toNat) ∧
  (∀ a : Word, (shr32 a 1).toNat = a.toNat / 2 ^ 1 ∧ (shr32 a 8).toNat = a.toNat / 2 ^ 8) ∧
  (∀ x : Word, rotl32 x 0 = x) ∧
  (∀ (x : Word) (n : BitVec 5), n ≠ 0 →
    (rotl32 x n).toNat = (x.toNat * 2 ^ n.toNat) % 2 ^ 32 + x.toNat / 2 ^ (32 - n.toNat)) ∧
  (∀ a b : Word, ugt a b = true ↔ b.toNat < a.toNat) ∧
  (∀ a b : Word, (a == b) = true ↔ a = b)

/-- R51, the four-byte case: the byte at the lowest offset is the most significant. -/
def Obligations.WordReadIsBigEndian : Prop :=
  ∀ (m : Memory) (a : Nat), (m.read32 a).toNat =
    (m.read a).toNat * 2 ^ 24 + (m.read (a + 1)).toNat * 2 ^ 16 + (m.read (a + 2)).toNat * 2 ^ 8 +
      (m.read (a + 3)).toNat

/-- R52: a word write stores the four bytes, most significant first, and changes no other byte; read back, it gives
the word. The buffer is canonical and the four offsets have 32 bits (R50). -/
def Obligations.WordWriteStoresFourBytes : Prop :=
  ∀ (m : Memory) (a : Nat) (v : Word), m.wf = true → a + 4 ≤ 2 ^ 32 →
    (m.write32 a v).read a = v.extractLsb' 24 8 ∧
    (m.write32 a v).read (a + 1) = v.extractLsb' 16 8 ∧
    (m.write32 a v).read (a + 2) = v.extractLsb' 8 8 ∧
    (m.write32 a v).read (a + 3) = v.extractLsb' 0 8 ∧
    (m.write32 a v).read32 a = v ∧
    ∀ b, b < a ∨ a + 4 ≤ b → (m.write32 a v).read b = m.read b

/-- Buffers in canonical form that read alike are equal (the model's own form of memory; derived from R50). -/
def Obligations.CanonicalBuffersAreDetermined : Prop :=
  ∀ m m' : Memory, m.wf = true → m'.wf = true → (∀ a, m.read a = m'.read a) → m = m'

/-! ## Encoding -/

/-- R72, R75: decoding an encoded command gives it back, and a legal word is the encoding of what it decodes to. -/
def Obligations.DecodeAndEncodeAgree : Prop :=
  (∀ i : Instr, i.wellFormed = true → decode (encode i) = .command i) ∧
  (∀ (w : Word) (i : Instr), decode w = .command i → encode i = w)

/-- R72: the match and mask of each row, and the eleven legal words. -/
def Obligations.OpcodeMapSelectsRows : Prop :=
  ∀ w : Word,
    (decode w = .command .digest ↔ w &&& 0xFFFFFFFF#32 = 0x00000001#32) ∧
    (decode w = .command .ident ↔ w &&& 0xFFFFFFFF#32 = 0x00000002#32) ∧
    (∀ id, decode w = .command (.cksum id) ↔
      w &&& 0xFFFFFF8F#32 = 0x00000003#32 ∧ id = w.extractLsb' 4 3) ∧
    (decode w = .command .patch ↔ w &&& 0xFFFFFFFF#32 = 0x00000004#32) ∧
    ((∃ i, decode w = .command i) ↔
      w ∈ [0x01#32, 0x02#32, 0x04#32, 0x03#32, 0x13#32, 0x23#32, 0x33#32, 0x43#32, 0x53#32, 0x63#32, 0x73#32])

/-- R73: which words are illegal, and that issuing one sets `STATUS.CODE` to 4 and changes nothing else. -/
def Obligations.IllegalWordsOnlySetStatus : Prop :=
  ∀ (w : Word) (s : State),
    ((w.extractLsb' 0 4 = 0#4 ∨ 5 ≤ (w.extractLsb' 0 4).toNat ∨ w.extractLsb' 7 25 ≠ 0#25 ∨
        (w.extractLsb' 4 3 ≠ 0#3 ∧
          (w.extractLsb' 0 4 = 1#4 ∨ w.extractLsb' 0 4 = 2#4 ∨ w.extractLsb' 0 4 = 4#4))) →
      issue w s = .next { s with status := 4#32 }) ∧
    ((∃ why, decode w = .illegal why) ↔
      (w.extractLsb' 0 4 = 0#4 ∨ 5 ≤ (w.extractLsb' 0 4).toNat ∨ w.extractLsb' 7 25 ≠ 0#25 ∨
        (w.extractLsb' 4 3 ≠ 0#3 ∧
          (w.extractLsb' 0 4 = 1#4 ∨ w.extractLsb' 0 4 = 2#4 ∨ w.extractLsb' 0 4 = 4#4))))

/-- R72, R75: a word of each row, written out from the opcode map, decodes to its command; the all-zero word does not. -/
def Obligations.SampleWordsDecode : Prop :=
  decode 0x00000001#32 = .command .digest ∧ decode 0x00000002#32 = .command .ident ∧
  decode 0x00000053#32 = .command (.cksum 5) ∧ decode 0x00000043#32 = .command (.cksum 4) ∧
  decode 0x00000004#32 = .command .patch ∧ decode 0x00000000#32 = .illegal .unknownOp ∧
  decode 0x00000083#32 = .illegal .reservedBits ∧ decode 0x00000012#32 = .illegal .strayId

/-- R78: `CKSUM V<n>` is the word `0x03 + 0x10 * n`, and `FINGERPRINT` is `IDENT`. -/
def Obligations.PseudoInstructionsExpand : Prop :=
  (encode (expandPseudo (.cksumNamed .v1))).toNat = 0x03 + 0x10 * 1 ∧
  (encode (expandPseudo (.cksumNamed .v2))).toNat = 0x03 + 0x10 * 2 ∧
  (encode (expandPseudo (.cksumNamed .v3))).toNat = 0x03 + 0x10 * 3 ∧
  (encode (expandPseudo (.cksumNamed .v5))).toNat = 0x03 + 0x10 * 5 ∧
  (encode (expandPseudo (.cksumNamed .v6))).toNat = 0x03 + 0x10 * 6 ∧
  expandPseudo .fingerprint = .ident

/-! ## The step -/

/-- R28, R64, R77: a step is the host's next action, whichever it is, at the state with that action taken off the host's
list; a write of `CMD` issues the word; and a word that decodes to a command runs it: the step is `exec` of that
command (log 2 for the list). -/
def Obligations.StepRunsTheDecodedCommand : Prop :=
  (∀ (s : State) (a : HostAction) (rest : List HostAction),
    s.inbox = a :: rest → step s = hostAct a { s with inbox := rest }) ∧
  (∀ (s : State) (w : Word) (rest : List HostAction),
    s.inbox = .write .cmd w :: rest → step s = issue w { s with inbox := rest }) ∧
  (∀ (s : State) (w : Word) (i : Instr) (rest : List HostAction),
    s.inbox = .write .cmd w :: rest → decode w = .command i → i.wellFormed = true →
    step s = exec i { s with inbox := rest })

/-- R77, R179: with no host action the block waits and nothing changes (log 2 for the host's list). -/
def Obligations.StepIdlesWithNoAction : Prop := ∀ s : State, s.inbox = [] → step s = .next s

/-- The fetch word the host places is the very next command to run (log 2). -/
def Obligations.FetchWordRunsNext : Prop :=
  ∀ (s : State) (i : Instr), step (s.withFetchWord 32 (encode i).toNat) = exec i s

/-- Every instruction has a meaning: no step is refused. -/
def Obligations.StepNeverRefuses : Prop := ∀ (s : State) (r : Refusal), step s ≠ .refused r

/-- R145: a step faults exactly when the host's next action issues `DIGEST` with `ARG0 + ARG1 > LEN` or `IDENT` with
`LEN < 0x1000`, and the fault is `RangeUndefined`. -/
def Obligations.StepFaultsExactlyOnUndefinedRange : Prop :=
  ∀ (s : State) (f : Fault), step s = .fault f ↔
    f = .rangeUndefined ∧
      ((∃ rest, s.inbox = .write .cmd 0x00000001#32 :: rest ∧
          s.len.toNat < s.arg0.toNat + s.arg1.toNat) ∨
       (∃ rest, s.inbox = .write .cmd 0x00000002#32 :: rest ∧ s.len.toNat < 0x1000))

/-! ## Host registers and reset -/

/-- R27, R29, R30: a host write reaches `ARG0`, `ARG1` and `LEN`; a write of any read-only register is ignored. -/
def Obligations.HostWritesReachOperandsOnly : Prop :=
  ∀ (s : State) (v : Word),
    hostAct (.write .arg0 v) s = .next { s with arg0 := v } ∧
    hostAct (.write .arg1 v) s = .next { s with arg1 := v } ∧
    hostAct (.write .len v) s = .next { s with len := v } ∧
    ∀ r ∈ [Reg.status, Reg.dgst, Reg.idr, Reg.res0, Reg.res1, Reg.flags],
      hostAct (.write r v) s = .next s

/-- R64 (b): the host changes one byte of the buffer, whatever `LEN` is, and nothing else. -/
def Obligations.HostPokeChangesOneByte : Prop :=
  ∀ (s : State) (a : Word) (b : Byte), BufferCanonical s → ∃ m, hostAct (.poke a b) s = .next { s with mem := m } ∧
    m.wf = true ∧ m.read a.toNat = b ∧ ∀ x, x ≠ a.toNat → m.read x = s.mem.read x

/-- R27, R29 to R34: what a host read returns; the reserved bits of `STATUS`, `IDR` and `FLAGS` read as zero in every state
(log 15). A read of `CMD`, and of `RES0` or `RES1` while `RVALID` is 0, returns some value, which the spec leaves open, and
changes nothing else but the model's counter of free values (93 U3, U6; log 6, 8, 9). -/
def Obligations.HostReadsReturnRegisters : Prop :=
  ∀ s : State,
    hostAct (.read .arg0) s = .next { s with returned := s.arg0 :: s.returned } ∧
    hostAct (.read .arg1) s = .next { s with returned := s.arg1 :: s.returned } ∧
    hostAct (.read .len) s = .next { s with returned := s.len :: s.returned } ∧
    hostAct (.read .dgst) s = .next { s with returned := s.dgst :: s.returned } ∧
    (flagRvalid s.flags = true →
      hostAct (.read .res0) s = .next { s with returned := s.res0 :: s.returned } ∧
      hostAct (.read .res1) s = .next { s with returned := s.res1 :: s.returned }) ∧
    (∃ v, hostAct (.read .status) s = .next { s with returned := v :: s.returned } ∧
      v.toNat = s.status.toNat % 2 ^ 3) ∧
    (∃ v, hostAct (.read .idr) s = .next { s with returned := v :: s.returned } ∧
      v.toNat = s.idr.toNat % 2 ^ 4) ∧
    (∃ v, hostAct (.read .flags) s = .next { s with returned := v :: s.returned } ∧
      v.toNat = s.flags.toNat % 2 ^ 3) ∧
    (∃ v n, hostAct (.read .cmd) s = .next { s with returned := v :: s.returned, free := n }) ∧
    (flagRvalid s.flags = false →
      (∃ v n, hostAct (.read .res0) s = .next { s with returned := v :: s.returned, free := n }) ∧
      (∃ v n, hostAct (.read .res1) s = .next { s with returned := v :: s.returned, free := n }))

/-- R27: the number of each of the ten registers, as the rule's table gives them; each number names its register, and no
number from 10 up names one. -/
def Obligations.RegistersAreNumberedZeroToNine : Prop :=
  regNumber .cmd = 0 ∧ regNumber .arg0 = 1 ∧ regNumber .arg1 = 2 ∧ regNumber .len = 3 ∧
  regNumber .status = 4 ∧ regNumber .dgst = 5 ∧ regNumber .idr = 6 ∧ regNumber .res0 = 7 ∧
  regNumber .res1 = 8 ∧ regNumber .flags = 9 ∧
  (∀ r : Reg, regNumber r < 10 ∧ regOfNumber (regNumber r) = some r) ∧
  (∀ n r, regOfNumber n = some r → regNumber r = n) ∧ ∀ n, 10 ≤ n → regOfNumber n = none

/-- R38: the reset values the spec gives: the generated table, `STATUS`, `IDR` and `FLAGS` zero. -/
def Obligations.ResetStateAsSpecified : Prop :=
  (∀ i : BitVec 8, tableEntry State.reset.tbl i = tblgen i) ∧
  State.reset.status = 0#32 ∧ State.reset.idr = 0#32 ∧ State.reset.flags = 0#32

/-- R170: reset applied between commands builds the table, clears `STATUS`, `IDR` and `FLAGS`, and does not touch the image
buffer. -/
def Obligations.ResetAgainKeepsTheBuffer : Prop :=
  ∀ s : State, ∃ t, hostAct .reset s = .next t ∧
    (∀ i : BitVec 8, tableEntry t.tbl i = tblgen i) ∧
    t.status = 0#32 ∧ t.idr = 0#32 ∧ t.flags = 0#32 ∧ t.mem = s.mem

/-! ## DIGEST -/

/-- R90: the worked examples of `tblgen`. -/
def Obligations.TblgenWorkedExamples : Prop :=
  tblgen 0 = 0x00000000#32 ∧ tblgen 1 = 0x77073096#32 ∧ tblgen 128 = 0xEDB88320#32 ∧
  tblgen 255 = 0x2D02EF8D#32 ∧
  [1, 2, 3, 4, 5, 6, 7].map (fun k => crcBitSteps k 1#32) =
    [0xEDB88320#32, 0x76DC4190#32, 0x3B6E20C8#32, 0x1DB71064#32, 0x0EDB8832#32, 0x076DC419#32, 0xEE0E612C#32] ∧
  [1, 2, 3, 4, 5, 6, 7].map (fun k => crcBitSteps k 128#32) =
    [0x40#32, 0x20#32, 0x10#32, 0x08#32, 0x04#32, 0x02#32, 0x01#32]

/-- R96 (a): the table step equals eight bit steps. -/
def Obligations.TableStepIsEightBitSteps : Prop :=
  ∀ (c : Word) (b : Byte), crcStep generatedTable c b = crcBitSteps 8 (c ^^^ zext32 b)

/-- R92, R96: with the table reset builds, `DIGEST` leaves in `DGST` the CRC-32 of its range taken bit by bit. -/
def Obligations.DigestIsTheBitwiseCrc : Prop :=
  ∀ s : State, TableBuilt s → s.arg0.toNat + s.arg1.toNat ≤ s.len.toNat →
    ∃ t, exec .digest s = .next t ∧ t.dgst = bitwiseCrc s.mem s.arg0.toNat s.arg1.toNat

/-- R96, last sentence: the digest is a function of the bytes of the range; where the range starts does not matter. -/
def Obligations.DigestDependsOnRangeBytesOnly : Prop :=
  ∀ (tbl : Vector Word 256) (m m' : Memory) (start start' n : Nat),
    (∀ j, j < n → m.read (start + j) = m'.read (start' + j)) →
    digest tbl m start n = digest tbl m' start' n

/-- R93: `DIGEST` completes exactly when the range lies in the buffer, with its result and its frame; otherwise it is the
undefined case. -/
def Obligations.DigestCommand : Prop :=
  ∀ s : State,
    (s.arg0.toNat + s.arg1.toNat ≤ s.len.toNat → ∃ t, exec .digest s = .next t ∧
      t.dgst = digest s.tbl s.mem s.arg0.toNat s.arg1.toNat ∧ (s.arg1 = 0#32 → t.dgst = 0#32) ∧
      t.status = 0#32 ∧
      SameBuffer s t ∧ t.idr = s.idr ∧ SameResult s t ∧ t.flags = s.flags ∧ SameOperands s t ∧
      t.tbl = s.tbl ∧ SameAcc s t ∧ SameHost s t) ∧
    (s.len.toNat < s.arg0.toNat + s.arg1.toNat → exec .digest s = .fault .rangeUndefined)

/-- R95: the empty digest is the complement of all ones, 0x00000000, for any start and any buffer. -/
def Obligations.EmptyDigestIsZero : Prop :=
  ∀ (tbl : Vector Word 256) (m : Memory) (start : Nat),
    digest tbl m start 0 = not32 0xFFFFFFFF#32 ∧ digest tbl m start 0 = 0x00000000#32

/-! ## IDENT -/

/-- R101: the five constants map to their identities with `matched`, every other value to V5 without. -/
def Obligations.FingerprintTable : Prop :=
  matchFingerprint 0x6170A4A1#32 = (.v1, true) ∧ matchFingerprint 0x90BB6CB5#32 = (.v2, true) ∧
  matchFingerprint 0x0B050EE0#32 = (.v3, true) ∧ matchFingerprint 0x98BC2C86#32 = (.v5, true) ∧
  matchFingerprint 0xACC8580A#32 = (.v6, true) ∧
  ∀ fp : Word, fp ∉ [0x6170A4A1#32, 0x90BB6CB5#32, 0x0B050EE0#32, 0x98BC2C86#32, 0xACC8580A#32] →
    matchFingerprint fp = (.v5, false)

/-- R103: `IDENT` completes exactly when `LEN >= 0x1000`, with its result and its frame; otherwise it is the undefined
case. -/
def Obligations.IdentCommand : Prop :=
  ∀ s : State,
    (0x1000 ≤ s.len.toNat → ∃ t, exec .ident s = .next t ∧
      t.dgst = digest s.tbl s.mem 0x40 0xFC0 ∧
      idrId t.idr = identityCode (matchFingerprint (digest s.tbl s.mem 0x40 0xFC0)).1 ∧
      idrMatch t.idr = (matchFingerprint (digest s.tbl s.mem 0x40 0xFC0)).2 ∧
      t.idr.toNat < 2 ^ 4 ∧ t.status = 0#32 ∧
      SameBuffer s t ∧ SameResult s t ∧ t.flags = s.flags ∧ SameOperands s t ∧
      t.tbl = s.tbl ∧ SameAcc s t ∧ SameHost s t) ∧
    (s.len.toNat < 0x1000 → exec .ident s = .fault .rangeUndefined)

/-- R104: after an `IDENT`, `ID` is one of 1, 2, 3, 5, 6, and the answer is a function of the 4032 bytes of the region. -/
def Obligations.IdentIsAFunctionOfTheRegion : Prop :=
  ∀ s s' : State, 0x1000 ≤ s.len.toNat → 0x1000 ≤ s'.len.toNat → s.tbl = s'.tbl →
    AgreeOn 0x40 0x1000 s.mem s'.mem →
    ∃ t t', exec .ident s = .next t ∧ exec .ident s' = .next t' ∧
      t.dgst = t'.dgst ∧ t.idr = t'.idr ∧ SameBuffer s t ∧
      idrId t.idr ∈ [1#3, 2#3, 3#3, 5#3, 6#3]

/-! ## CKSUM -/

/-- R114: one iteration, register by register, on any working registers, word and auxiliary word. -/
def Obligations.IterationFollowsItsSteps : Prop :=
  ∀ (m : Memory) (idn : Identity) (off : Word) (a : Acc),
    let d := m.read32 (0x1000 + off.toNat)
    let aux := m.read32 (0x40 + 0x0710 + (off &&& 0xFF#32).toNat)
    let r := rotl32 d (d.setWidth 5)
    let b := iterate m idn off a
    b.t4 = (if 2 ^ 32 ≤ a.t6.toNat + d.toNat then a.t4 + 1 else a.t4) ∧
    b.t6 = a.t6 + d ∧ b.t3 = a.t3 ^^^ d ∧ b.t5 = a.t5 + r ∧
    b.t2 = (if d.toNat < a.t2.toNat then a.t2 ^^^ r else a.t2 ^^^ (b.t6 ^^^ d)) ∧
    (idn = .v5 → b.t7 = aux ∧ b.t1 = a.t1 + (aux ^^^ d)) ∧
    (idn ≠ .v5 → b.t7 = a.t7 ∧ b.t1 = a.t1 + (b.t5 ^^^ d))

/-- R116: `t4` and `t6` after any number of iterations: the seed plus all words, its low 32 bits in `t6`, and the number of
carries, at most one an iteration, added to the seed in `t4`; and `t4` steps exactly where `t6 + d` reaches 2^32, equivalently
where the wrapped sum is below the old `t6`. -/
def Obligations.SumAndCarriesClosedForm : Prop :=
  ∀ (p : Config.Params) (m : Memory) (idn : Identity) (k : Nat), k ≤ 262144 →
    (accAfter p m idn k).t6.toNat = ((seed p idn).toNat + wordSum m k) % 2 ^ 32 ∧
    (accAfter p m idn k).t4.toNat =
      ((seed p idn).toNat + ((seed p idn).toNat + wordSum m k) / 2 ^ 32) % 2 ^ 32 ∧
    ((seed p idn).toNat + wordSum m k) / 2 ^ 32 ≤ k ∧
    (k < 262144 →
      (accAfter p m idn (k + 1)).t4 =
        (if 2 ^ 32 ≤ (accAfter p m idn k).t6.toNat + (regionWord m k).toNat then
          (accAfter p m idn k).t4 + 1 else (accAfter p m idn k).t4) ∧
      (2 ^ 32 ≤ (accAfter p m idn k).t6.toNat + (regionWord m k).toNat ↔
        (accAfter p m idn (k + 1)).t6.toNat < (accAfter p m idn k).t6.toNat))

/-- R21: `t3` is the running exclusive or of the words and `t5` the running sum of the rotated words, from the seed. -/
def Obligations.XorAndRotatedSumClosedForm : Prop :=
  ∀ (p : Config.Params) (m : Memory) (idn : Identity) (k : Nat), k ≤ 262144 →
    (accAfter p m idn k).t3 = seed p idn ^^^ wordXor m k ∧
    (accAfter p m idn k).t5.toNat = ((seed p idn).toNat + rotatedSum m k) % 2 ^ 32

/-- R117: under V5, `t7` holds the auxiliary word of the last iteration; under every other identity it stays at the seed. -/
def Obligations.AuxiliaryRegisterContents : Prop :=
  ∀ (p : Config.Params) (m : Memory) (k : Nat), k < 262144 →
    (accAfter p m .v5 (k + 1)).t7 = m.read32 (0x750 + (4 * k) % 0x100) ∧
    ∀ idn, idn ≠ .v5 → (accAfter p m idn (k + 1)).t7 = seed p idn

/-- R54, R57 (c), R112: the words iteration `k` reads are 4-aligned and inside their regions. -/
def Obligations.WordAccessesStayInRegion : Prop :=
  ∀ k : Nat, k < 262144 →
    wordAddr (loopOffset k) = 0x1000 + 4 * k ∧ wordAddr (loopOffset k) + 4 ≤ 0x101000 ∧
    0x750 ≤ auxAddr (loopOffset k) ∧ auxAddr (loopOffset k) + 4 ≤ 0x850 ∧
    wordAddr (loopOffset k) % 4 = 0 ∧ auxAddr (loopOffset k) % 4 = 0

/-- R111: seed selection, for every instance of the parameters, and that V1 and V2 return the same pair. -/
def Obligations.SeedSelection : Prop :=
  ∀ p : Config.Params,
    seed p .v1 = p.seedA ∧ seed p .v2 = p.seedA ∧ seed p .v3 = p.seedB ∧ seed p .v5 = p.seedC ∧
    seed p .v6 = p.seedD ∧ ∀ m : Memory, computeChecksum p m .v1 = computeChecksum p m .v2

/-- R118: the final combination of each identity, in unbounded integers where it adds or multiplies. -/
def Obligations.FinalCombination : Prop :=
  ∀ a : Acc,
    (combine .v3 a).1.toNat = ((a.t6 ^^^ a.t4).toNat + a.t3.toNat) % 2 ^ 32 ∧
    (combine .v3 a).2.toNat = ((a.t5 ^^^ a.t2).toNat + a.t1.toNat) % 2 ^ 32 ∧
    (combine .v6 a).1.toNat = (a.t6.toNat * a.t4.toNat + a.t3.toNat) % 2 ^ 32 ∧
    (combine .v6 a).2.toNat = (a.t5.toNat * a.t2.toNat + a.t1.toNat) % 2 ^ 32 ∧
    ∀ idn ∈ [Identity.v1, Identity.v2, Identity.v5],
      combine idn a = ((a.t6 ^^^ a.t4) ^^^ a.t3, (a.t5 ^^^ a.t2) ^^^ a.t1)

/-- R119, the completing case: `CKSUM` of an identity on a buffer of at least 0x101000 bytes, its result and its frame. -/
def Obligations.CksumCompletes : Prop :=
  ∀ (s : State) (id : BitVec 3) (idn : Identity),
    (id, idn) ∈ [(1#3, Identity.v1), (2#3, .v2), (3#3, .v3), (5#3, .v5), (6#3, .v6)] →
    0x101000 ≤ s.len.toNat →
    ∃ t, exec (.cksum id) s = .next t ∧
      (t.res0, t.res1) = combine idn (accAfter Config.params s.mem idn (0x100000 / 4)) ∧
      flagRvalid t.flags = true ∧ t.status = 0#32 ∧
      flagFix0 t.flags = flagFix0 s.flags ∧ flagFix1 t.flags = flagFix1 s.flags ∧
      (∀ k, k ≠ 2 → t.flags.getLsbD k = s.flags.getLsbD k) ∧
      SameBuffer s t ∧ t.dgst = s.dgst ∧ t.idr = s.idr ∧ SameOperands s t ∧
      t.tbl = s.tbl ∧ t.crc = s.crc ∧ SameHost s t

/-- R110, R141, R142, R147: the two errors of `CKSUM`, the identity checked first; `RVALID` becomes 0 and nothing but `STATUS`,
`RVALID`, `RES0` and `RES1` changes. -/
def Obligations.CksumErrors : Prop :=
  ∀ (s : State) (id : BitVec 3) (code : Word),
    (if id ∈ [0#3, 4#3, 7#3] then code = 1#32 else s.len.toNat < 0x101000 ∧ code = 2#32) →
    ∃ t, exec (.cksum id) s = .next t ∧ t.status = code ∧ flagRvalid t.flags = false ∧
      (∀ k, k ≠ 2 → t.flags.getLsbD k = s.flags.getLsbD k) ∧
      SameBuffer s t ∧ t.dgst = s.dgst ∧ t.idr = s.idr ∧ SameOperands s t ∧
      t.tbl = s.tbl ∧ t.crc = s.crc ∧ SameAcc s t ∧ SameHost s t

/-- R120: the pair depends on the bytes [0x1000, 0x101000) and, for V5, [0x750, 0x850), and on no other byte. -/
def Obligations.CksumReadsOnlyItsRegions : Prop :=
  ∀ (p : Config.Params) (idn : Identity) (m m' : Memory), AgreeOn 0x1000 0x101000 m m' →
    (idn = .v5 → AgreeOn 0x750 0x850 m m') → computeChecksum p m idn = computeChecksum p m' idn

/-- R119, corner case: on an all-zero buffer V5 gives `(SEED_C, SEED_C)` and V1 and V2 `(SEED_A, mul32(SEED_A, 0x40001))`, for
every instance of the seeds. -/
def Obligations.CksumOfAllZeroBuffer : Prop :=
  ∀ (p : Config.Params) (m : Memory), (∀ a, m.read a = 0#8) →
    computeChecksum p m .v5 = (p.seedC, p.seedC) ∧
    computeChecksum p m .v1 = (p.seedA, mul32 p.seedA 0x40001#32) ∧
    computeChecksum p m .v2 = (p.seedA, mul32 p.seedA 0x40001#32)

/-! ## PATCH -/

/-- R133, R143, R142, R147: the two errors of `PATCH`, `NoResult` first; each changes `STATUS` and nothing else. -/
def Obligations.PatchErrors : Prop :=
  ∀ s : State,
    (flagRvalid s.flags = false → exec .patch s = .next { s with status := 3#32 }) ∧
    (flagRvalid s.flags = true → s.len.toNat < 0x18 →
      exec .patch s = .next { s with status := 2#32 })

/-- R131, R133: `PATCH` completes when `RVALID` is 1 and `LEN >= 0x18`: both header fields then hold the result pair, `FIX0` and
`FIX1` say which field differed, and its frame. -/
def Obligations.PatchCompletes : Prop :=
  ∀ s : State, BufferCanonical s → flagRvalid s.flags = true → 0x18 ≤ s.len.toNat →
    ∃ t, exec .patch s = .next t ∧
      t.mem.read32 0x10 = s.res0 ∧ t.mem.read32 0x14 = s.res1 ∧
      (flagFix0 t.flags = true ↔ s.res0 ≠ s.mem.read32 0x10) ∧
      (flagFix1 t.flags = true ↔ s.res1 ≠ s.mem.read32 0x14) ∧
      (∀ k, 2 ≤ k → t.flags.getLsbD k = s.flags.getLsbD k) ∧ t.status = 0#32 ∧
      (∀ a, a < 0x10 ∨ 0x18 ≤ a → t.mem.read a = s.mem.read a) ∧
      (s.res0 = s.mem.read32 0x10 → s.res1 = s.mem.read32 0x14 → t.mem = s.mem) ∧
      SameResult s t ∧ t.dgst = s.dgst ∧ t.idr = s.idr ∧ SameOperands s t ∧
      t.tbl = s.tbl ∧ t.crc = s.crc ∧ SameAcc s t ∧ SameHost s t

/-- R134: the second of two `PATCH` commands in a row makes no write and reports `FIX0 = FIX1 = 0`. -/
def Obligations.SecondPatchWritesNothing : Prop :=
  ∀ s : State, BufferCanonical s → flagRvalid s.flags = true → 0x18 ≤ s.len.toNat →
    ∃ t u, exec .patch s = .next t ∧ exec .patch t = .next u ∧ u.mem = t.mem ∧
      flagFix0 u.flags = false ∧ flagFix1 u.flags = false

/-- R132: the patch function under `PATCH_COMPAT` = 1 against 0: the two consequences, and that the final buffer is the same in
every other case. These consequences are the spec's own inference, not the document's words (R132: `[derived: from rule
R131]`); that this machine takes `PATCH_COMPAT` = 0 is log 11, and the statement holds beside that choice. -/
def Obligations.PatchCompatConsequences : Prop :=
  ∀ (p : Config.Params) (m : Memory) (word0 word1 : Word), m.wf = true →
    let quirk := patch { p with patchCompat := true } m word0 word1
    let plain := patch { p with patchCompat := false } m word0 word1
    let stored1 := m.read32 0x14
    (stored1 = word1 → word0 ≠ word1 →
      quirk.2.2 = true ∧ (∀ a, 0x14 ≤ a → a < 0x18 → quirk.1.read a = m.read a)) ∧
    (stored1 = word0 → word0 ≠ word1 → quirk.2.2 = false ∧ quirk.1.read32 0x14 = word0) ∧
    (stored1 ≠ word0 ∨ word0 = word1 → quirk.1 = plain.1) ∧
    quirk.2.1 = plain.2.1

/-- R135: `PATCH` is the only command that writes the buffer, and it writes only offsets 0x10 to 0x17. -/
def Obligations.WritesConfinedToHeaderFields : Prop :=
  ∀ (i : Instr) (s t : State), exec i s = .next t →
    (i ≠ .patch → t.mem = s.mem) ∧ ∀ a, a < 0x10 ∨ 0x18 ≤ a → t.mem.read a = s.mem.read a

/-- R57 (a): a `PATCH` never changes the result of a later `IDENT` or `CKSUM` on the same buffer. -/
def Obligations.PatchKeepsIdentAndCksum : Prop :=
  ∀ s t : State, exec .patch s = .next t →
    digest t.tbl t.mem 0x40 0xFC0 = digest s.tbl s.mem 0x40 0xFC0 ∧
    ∀ (p : Config.Params) (idn : Identity),
      computeChecksum p t.mem idn = computeChecksum p s.mem idn

/-! ## The whole machine -/

/-- R176, R178: a command completes exactly when the host keeps its duty about the range; no command hangs. -/
def Obligations.CommandsCompleteUnderTheirDuty : Prop :=
  ∀ (i : Instr) (s : State), RangeDuty i s ↔ ∃ t, exec i s = .next t

/-- R145, R149: a run in which the host issues neither `DIGEST` nor `IDENT` meets no fault, whatever errors its commands end
in. -/
def Obligations.RunsWithoutDigestsAreSafe : Prop :=
  ∀ (n : Nat) (s : State),
    (∀ a ∈ s.inbox, a ≠ .write .cmd 0x00000001#32 ∧ a ≠ .write .cmd 0x00000002#32) → SafeRun n s

/-- R29, R30, R91: no command writes `ARG0`, `ARG1`, `LEN` or the table, and none touches what is the host's. -/
def Obligations.CommandsKeepOperandsAndTable : Prop :=
  ∀ (i : Instr) (s t : State), exec i s = .next t → SameOperands s t ∧ t.tbl = s.tbl ∧ SameHost s t

/-- R31, R32, R33, R35: each result latch has its own writers: `DGST` by `DIGEST` and `IDENT`, `IDR` by `IDENT`, the result pair and
`RVALID` by `CKSUM`, `FIX0` and `FIX1` by `PATCH`. -/
def Obligations.LatchesHaveTheirWriters : Prop :=
  ∀ (i : Instr) (s t : State), exec i s = .next t →
    (t.dgst ≠ s.dgst → i = .digest ∨ i = .ident) ∧ (t.idr ≠ s.idr → i = .ident) ∧
    (t.res0 ≠ s.res0 ∨ t.res1 ≠ s.res1 ∨ flagRvalid t.flags ≠ flagRvalid s.flags →
      ∃ id, i = .cksum id) ∧
    (flagFix0 t.flags ≠ flagFix0 s.flags ∨ flagFix1 t.flags ≠ flagFix1 s.flags → i = .patch)

/-- R140: the codes each command, and an illegal word, can leave in `STATUS`; 5 to 7 are never produced. -/
def Obligations.StatusCodesByCommand : Prop :=
  ∀ (w : Word) (s t : State), issue w s = .next t →
    match decode w with
    | .command .digest    => t.status = 0#32
    | .command .ident     => t.status = 0#32
    | .command (.cksum _) => t.status ∈ [0#32, 1#32, 2#32]
    | .command .patch     => t.status ∈ [0#32, 2#32, 3#32]
    | .illegal _          => t.status = 4#32

/-- R148: a command word that ends in an error changes `STATUS.CODE` and, if it is a `CKSUM`, `RVALID` (to 0), `RES0` and `RES1`;
nothing else. -/
def Obligations.ErrorsHaveNoOtherEffect : Prop :=
  ∀ (w : Word) (s t : State), issue w s = .next t → t.status ≠ 0#32 →
    t.mem = s.mem ∧ t.dgst = s.dgst ∧ t.idr = s.idr ∧ SameOperands s t ∧ t.tbl = s.tbl ∧
    flagFix0 t.flags = flagFix0 s.flags ∧ flagFix1 t.flags = flagFix1 s.flags ∧
    t.crc = s.crc ∧ SameAcc s t ∧ SameHost s t ∧
    ((∃ id, decode w = .command (.cksum id)) → flagRvalid t.flags = false) ∧
    ((∀ id, decode w ≠ .command (.cksum id)) → t.flags = s.flags ∧ SameResult s t)

/-- R33, R143: a command leaves `RVALID` = 1 only if it was 1 before, or if it is a `CKSUM` that completed with `CODE` = 0. -/
def Obligations.RvalidComesFromCksum : Prop :=
  ∀ (i : Instr) (s t : State), exec i s = .next t → flagRvalid t.flags = true →
    (flagRvalid s.flags = true ∧ ∀ id, i ≠ .cksum id) ∨ (∃ id, i = .cksum id ∧ t.status = 0#32)

/-- Every state a step gives keeps the invariant: canonical buffer, built table, legal `STATUS`, `IDR` and `FLAGS` (R32, R34, R91,
R140). -/
def Obligations.StepKeepsInvariant : Prop :=
  ∀ s t : State, MachineInv s → step s = .next t → MachineInv t

/-- The invariant holds at reset (R38). -/
def Obligations.ResetMeetsInvariant : Prop := MachineInv State.reset

/-- R33, R35, R119, R143: no result is held at reset; and if one is held after a step, then either the step issued no
`CKSUM` word, a result was held before, and the pair is that same pair; or the step issued the `CKSUM` of one of the
five identities on a buffer long enough, and the pair is the checksum of that step's buffer under that identity. -/
def Obligations.HeldResultIsKeptOrComputed : Prop :=
  flagRvalid State.reset.flags = false ∧
  ∀ s t : State, step s = .next t → flagRvalid t.flags = true →
    ((∀ id rest, s.inbox ≠ .write .cmd (encode (.cksum id)) :: rest) ∧
      flagRvalid s.flags = true ∧ SameResult s t) ∨
    (∃ id idn rest, s.inbox = .write .cmd (encode (.cksum id)) :: rest ∧
      (id, idn) ∈ [(1#3, Identity.v1), (2#3, .v2), (3#3, .v3), (5#3, .v5), (6#3, .v6)] ∧
      0x101000 ≤ s.len.toNat ∧ t.status = 0#32 ∧
      (t.res0, t.res1) = computeChecksum Config.params s.mem idn)

/-- R78: on a buffer long enough for `CKSUM`, `REPAIR` completes with `STATUS` 0 (its `CKSUM` never raises `UnsupportedBootChip`) and
both header fields hold the checksum under the identity `IDENT` returned. -/
def Obligations.RepairWritesTheChecksum : Prop :=
  ∀ s : State, BufferCanonical s → 0x101000 ≤ s.len.toNat →
    ∃ t, repair s = .next t ∧ t.status = 0#32 ∧
      (t.mem.read32 0x10, t.mem.read32 0x14) =
        computeChecksum Config.params s.mem (matchFingerprint (digest s.tbl s.mem 0x40 0xFC0)).1 ∧
      (∀ a, a < 0x10 ∨ 0x18 ≤ a → t.mem.read a = s.mem.read a)

/-- R134: the full repair run twice produces the same bytes as run once; the second run makes no write and reports
`FIX0 = FIX1 = 0`. That the second run finds both fields right is the spec's own inference (R134: `[derived: from rules
R131, R132 and 20_memory.md rule R57]`), and it rests on the choice `PATCH_COMPAT` = 0 (log 11). -/
def Obligations.RepairIsIdempotent : Prop :=
  ∀ s : State, BufferCanonical s → 0x101000 ≤ s.len.toNat →
    ∃ t u, repair s = .next t ∧ repair t = .next u ∧ u.mem = t.mem ∧
      u.idr = t.idr ∧ SameResult t u ∧ flagFix0 u.flags = false ∧ flagFix1 u.flags = false
end

