-- ==== Sys2Proof/Laws/Flags.lean ====
section
/-! SUPPORT. Bit by bit, what the field operations of `STATUS`, `IDR` and `FLAGS` do. -/

namespace Sys2Proof.Machine

/-- `putBit` sets its bit and leaves every other alone. -/
theorem getLsbD_putBit (w : Word) (k j : Nat) (b : Bool) (hk : k < 32) :
    (putBit w k b).getLsbD j = if j = k then b else w.getLsbD j := by
  unfold putBit
  rcases Nat.lt_or_ge j 32 with hj | hj
  · rcases eq_or_ne j k with rfl | h
    · cases b <;> simp [hj]
    · have hkj : k ≠ j := Ne.symm h
      cases b
      · simp [hj, h]
      · simp [h, hkj, BitVec.getLsbD_twoPow]
  · rw [BitVec.getLsbD_of_ge _ _ hj, BitVec.getLsbD_of_ge _ _ hj, if_neg (by omega)]

@[simp] theorem flagRvalid_putRvalid (w : Word) (b : Bool) : flagRvalid (putRvalid w b) = b := by
  rw [flagRvalid, putRvalid, getLsbD_putBit _ _ _ _ (by decide)]
  rfl

@[simp] theorem flagFix0_putRvalid (w : Word) (b : Bool) : flagFix0 (putRvalid w b) = flagFix0 w := by
  rw [flagFix0, putRvalid, getLsbD_putBit _ _ _ _ (by decide)]
  rfl

@[simp] theorem flagFix1_putRvalid (w : Word) (b : Bool) : flagFix1 (putRvalid w b) = flagFix1 w := by
  rw [flagFix1, putRvalid, getLsbD_putBit _ _ _ _ (by decide)]
  rfl

@[simp] theorem flagRvalid_putFixes (w : Word) (b c : Bool) : flagRvalid (putFixes w b c) = flagRvalid w := by
  rw [flagRvalid, putFixes, getLsbD_putBit _ _ _ _ (by decide), getLsbD_putBit _ _ _ _ (by decide)]
  rfl

@[simp] theorem flagFix0_putFixes (w : Word) (b c : Bool) : flagFix0 (putFixes w b c) = b := by
  rw [flagFix0, putFixes, getLsbD_putBit _ _ _ _ (by decide), getLsbD_putBit _ _ _ _ (by decide)]
  rfl

@[simp] theorem flagFix1_putFixes (w : Word) (b c : Bool) : flagFix1 (putFixes w b c) = c := by
  rw [flagFix1, putFixes, getLsbD_putBit _ _ _ _ (by decide), getLsbD_putBit _ _ _ _ (by decide)]
  rfl

/-- `putRvalid` changes bit 2 alone. -/
theorem getLsbD_putRvalid (w : Word) (b : Bool) (j : Nat) :
    (putRvalid w b).getLsbD j = if j = 2 then b else w.getLsbD j := getLsbD_putBit w 2 j b (by decide)

/-- `putFixes` changes bits 0 and 1 alone. -/
theorem getLsbD_putFixes_high (w : Word) (b c : Bool) {j : Nat} (hj : 2 ≤ j) :
    (putFixes w b c).getLsbD j = w.getLsbD j := by
  rw [putFixes, getLsbD_putBit _ _ _ _ (by decide), if_neg (by omega), getLsbD_putBit _ _ _ _ (by decide),
    if_neg (by omega)]

@[simp] theorem statusCode_statusWord (c : BitVec 3) : statusCode (statusWord c) = c := by
  revert c; decide

@[simp] theorem idrId_idrWord (id : BitVec 3) (b : Bool) : idrId (idrWord id b) = id := by
  revert id b; decide

@[simp] theorem idrMatch_idrWord (id : BitVec 3) (b : Bool) : idrMatch (idrWord id b) = b := by
  revert id b; decide

/-- Reading `IDR` does not change what `IDENT` left in it. -/
@[simp] theorem idrRead_idrWord (id : BitVec 3) (b : Bool) : idrRead (idrWord id b) = idrWord id b := by
  revert id b; decide

/-- Reading `STATUS` does not change what a command left in it. -/
@[simp] theorem statusRead_statusWord (c : BitVec 3) : statusRead (statusWord c) = statusWord c := by
  revert c; decide

end Sys2Proof.Machine
end

