-- ==== Sys2Proof/Laws/Memory.lean ====
section
/-! SUPPORT. The laws of the image buffer: read after write, the canonical form kept by every write, and big-endian words. -/

namespace Sys2Proof.Machine

@[simp] theorem Memory.read_nil (a : Nat) : Memory.read [] a = unlistedByte := rfl

theorem Memory.read_cons (c : Host.Cell) (rest : Memory) (a : Nat) :
    Memory.read (c :: rest) a = if c.1 = a then c.2 else Memory.read rest a := rfl

theorem Memory.wfFrom_cons {lo : Nat} {c : Host.Cell} {rest : Memory} :
    Memory.wfFrom lo (c :: rest) = true ↔
      lo ≤ c.1 ∧ c.1 < 2 ^ 32 ∧ c.2 ≠ unlistedByte ∧ Memory.wfFrom (c.1 + 1) rest = true := by
  simp [Memory.wfFrom, and_assoc]

theorem Memory.wfFrom_mono {lo lo' : Nat} {m : Memory} (h : Memory.wfFrom lo m = true) (hl : lo' ≤ lo) :
    Memory.wfFrom lo' m = true := by
  cases m with
  | nil => rfl
  | cons c rest =>
    rw [Memory.wfFrom_cons] at h ⊢
    exact ⟨by omega, h.2⟩

/-- Below where its entries begin, a canonical buffer lists nothing. -/
theorem Memory.read_below {lo : Nat} {m : Memory} (h : Memory.wfFrom lo m = true) {a : Nat} (ha : a < lo) :
    m.read a = unlistedByte := by
  induction m generalizing lo with
  | nil => rfl
  | cons c rest ih =>
    rw [Memory.wfFrom_cons] at h
    rw [Memory.read_cons, if_neg (by omega)]
    exact ih h.2.2.2 (by omega)

theorem Memory.wfFrom_write {lo a : Nat} {m : Memory} (b : Byte) (h : Memory.wfFrom lo m = true)
    (hlo : lo ≤ a) (ha : a < 2 ^ 32) : Memory.wfFrom lo (m.write a b) = true := by
  induction m generalizing lo with
  | nil =>
    rw [Memory.write]
    split
    · rfl
    · exact Memory.wfFrom_cons.2 ⟨hlo, ha, ‹_›, rfl⟩
  | cons c rest ih =>
    have hc := Memory.wfFrom_cons.1 h
    rw [Memory.write]
    split
    · split
      · exact h
      · exact Memory.wfFrom_cons.2 ⟨hlo, ha, ‹_›, Memory.wfFrom_cons.2 ⟨by omega, hc.2⟩⟩
    · split
      · split
        · exact Memory.wfFrom_mono hc.2.2.2 (by omega)
        · exact Memory.wfFrom_cons.2 ⟨hlo, ha, ‹_›, by rw [‹a = c.1›]; exact hc.2.2.2⟩
      · exact Memory.wfFrom_cons.2 ⟨hc.1, hc.2.1, hc.2.2.1, ih hc.2.2.2 (by omega)⟩

/-- A write keeps the canonical form. -/
theorem Memory.wf_write {m : Memory} (a : Nat) (b : Byte) (h : m.wf = true) (ha : a < 2 ^ 32) :
    (m.write a b).wf = true := Memory.wfFrom_write b h (Nat.zero_le a) ha

theorem Memory.read_write_same_from {lo : Nat} {m : Memory} (a : Nat) (b : Byte)
    (h : Memory.wfFrom lo m = true) : (m.write a b).read a = b := by
  induction m generalizing lo with
  | nil =>
    rw [Memory.write]
    split
    · exact (‹b = _›).symm
    · simp [Memory.read_cons]
  | cons c rest ih =>
    have hc := Memory.wfFrom_cons.1 h
    rw [Memory.write]
    split
    · split
      · rw [Memory.read_cons, if_neg (by omega), Memory.read_below hc.2.2.2 (by omega)]
        exact (‹b = _›).symm
      · simp [Memory.read_cons]
    · split
      · split
        · rw [Memory.read_below hc.2.2.2 (by omega)]
          exact (‹b = _›).symm
        · simp [Memory.read_cons]
      · rw [Memory.read_cons, if_neg (by omega)]
        exact ih hc.2.2.2

/-- A read after a write to the same offset gives the byte written. -/
theorem Memory.read_write_same {m : Memory} (a : Nat) (b : Byte) (h : m.wf = true) :
    (m.write a b).read a = b := Memory.read_write_same_from a b h

/-- A write leaves every other offset alone, in any buffer. -/
theorem Memory.read_write_other (m : Memory) {a x : Nat} (b : Byte) (hx : x ≠ a) :
    (m.write a b).read x = m.read x := by
  induction m with
  | nil =>
    rw [Memory.write]
    split
    · rfl
    · simp [Memory.read_cons, Ne.symm hx]
  | cons c rest ih =>
    rw [Memory.write]
    split
    · split
      · rfl
      · simp [Memory.read_cons, Ne.symm hx]
    · split
      · split
        · rw [Memory.read_cons, if_neg (by omega)]
        · simp [Memory.read_cons, Ne.symm hx, ← ‹a = c.1›]
      · simp only [Memory.read_cons, ih]

/-- A word write keeps the canonical form. -/
theorem Memory.wf_write32 {m : Memory} (a : Nat) (v : Word) (h : m.wf = true) (ha : a + 3 < 2 ^ 32) :
    (m.write32 a v).wf = true := by
  unfold Memory.write32
  exact Memory.wf_write _ _ (Memory.wf_write _ _ (Memory.wf_write _ _ (Memory.wf_write _ _ h (by omega))
    (by omega)) (by omega)) (by omega)

/-- A word write leaves every byte outside its four alone, in any buffer. -/
theorem Memory.read_write32_other (m : Memory) {a x : Nat} (v : Word) (hx : x < a ∨ a + 4 ≤ x) :
    (m.write32 a v).read x = m.read x := by
  unfold Memory.write32
  iterate 4 rw [Memory.read_write_other _ _ (by omega)]

/-- Words read alike where their four bytes do. -/
theorem Memory.read32_congr {m m' : Memory} {a a' : Nat}
    (h : ∀ j, j < 4 → m.read (a + j) = m'.read (a' + j)) : m.read32 a = m'.read32 a' := by
  have h0 := h 0 (by decide)
  have h1 := h 1 (by decide)
  have h2 := h 2 (by decide)
  have h3 := h 3 (by decide)
  simp only [Nat.add_zero] at h0
  simp only [Memory.read32, h0, h1, h2, h3]

/-- A word write leaves a word that does not overlap it alone. -/
theorem Memory.read32_write32_other (m : Memory) {a x : Nat} (v : Word) (hx : x + 4 ≤ a ∨ a + 4 ≤ x) :
    (m.write32 a v).read32 x = m.read32 x :=
  Memory.read32_congr fun j hj => Memory.read_write32_other m v (by omega)

end Sys2Proof.Machine
end

