-- ==== Sys2Proof/Laws/State.lean ====
section
/-! SUPPORT. What each update of the state does to each field: one lemma per field per update. -/

namespace Sys2Proof.Machine

variable (s : State)

/-! ### `setCode` -/

@[simp] theorem State.setCode_mem (c : BitVec 3) : (s.setCode c).mem = s.mem := rfl
@[simp] theorem State.setCode_tbl (c : BitVec 3) : (s.setCode c).tbl = s.tbl := rfl
@[simp] theorem State.setCode_crc (c : BitVec 3) : (s.setCode c).crc = s.crc := rfl
@[simp] theorem State.setCode_acc (c : BitVec 3) : (s.setCode c).acc = s.acc := rfl
@[simp] theorem State.setCode_off (c : BitVec 3) : (s.setCode c).off = s.off := rfl
@[simp] theorem State.setCode_arg0 (c : BitVec 3) : (s.setCode c).arg0 = s.arg0 := rfl
@[simp] theorem State.setCode_arg1 (c : BitVec 3) : (s.setCode c).arg1 = s.arg1 := rfl
@[simp] theorem State.setCode_len (c : BitVec 3) : (s.setCode c).len = s.len := rfl
@[simp] theorem State.setCode_status (c : BitVec 3) : (s.setCode c).status = statusWord c := rfl
@[simp] theorem State.setCode_dgst (c : BitVec 3) : (s.setCode c).dgst = s.dgst := rfl
@[simp] theorem State.setCode_idr (c : BitVec 3) : (s.setCode c).idr = s.idr := rfl
@[simp] theorem State.setCode_res0 (c : BitVec 3) : (s.setCode c).res0 = s.res0 := rfl
@[simp] theorem State.setCode_res1 (c : BitVec 3) : (s.setCode c).res1 = s.res1 := rfl
@[simp] theorem State.setCode_flags (c : BitVec 3) : (s.setCode c).flags = s.flags := rfl
@[simp] theorem State.setCode_inbox (c : BitVec 3) : (s.setCode c).inbox = s.inbox := rfl
@[simp] theorem State.setCode_returned (c : BitVec 3) : (s.setCode c).returned = s.returned := rfl
@[simp] theorem State.setCode_free (c : BitVec 3) : (s.setCode c).free = s.free := rfl

/-! ### `setDgst` -/

@[simp] theorem State.setDgst_mem (v : Word) : (s.setDgst v).mem = s.mem := rfl
@[simp] theorem State.setDgst_tbl (v : Word) : (s.setDgst v).tbl = s.tbl := rfl
@[simp] theorem State.setDgst_crc (v : Word) : (s.setDgst v).crc = s.crc := rfl
@[simp] theorem State.setDgst_acc (v : Word) : (s.setDgst v).acc = s.acc := rfl
@[simp] theorem State.setDgst_off (v : Word) : (s.setDgst v).off = s.off := rfl
@[simp] theorem State.setDgst_arg0 (v : Word) : (s.setDgst v).arg0 = s.arg0 := rfl
@[simp] theorem State.setDgst_arg1 (v : Word) : (s.setDgst v).arg1 = s.arg1 := rfl
@[simp] theorem State.setDgst_len (v : Word) : (s.setDgst v).len = s.len := rfl
@[simp] theorem State.setDgst_status (v : Word) : (s.setDgst v).status = s.status := rfl
@[simp] theorem State.setDgst_dgst (v : Word) : (s.setDgst v).dgst = v := rfl
@[simp] theorem State.setDgst_idr (v : Word) : (s.setDgst v).idr = s.idr := rfl
@[simp] theorem State.setDgst_res0 (v : Word) : (s.setDgst v).res0 = s.res0 := rfl
@[simp] theorem State.setDgst_res1 (v : Word) : (s.setDgst v).res1 = s.res1 := rfl
@[simp] theorem State.setDgst_flags (v : Word) : (s.setDgst v).flags = s.flags := rfl
@[simp] theorem State.setDgst_inbox (v : Word) : (s.setDgst v).inbox = s.inbox := rfl
@[simp] theorem State.setDgst_returned (v : Word) : (s.setDgst v).returned = s.returned := rfl
@[simp] theorem State.setDgst_free (v : Word) : (s.setDgst v).free = s.free := rfl

/-! ### `setIdr` -/

@[simp] theorem State.setIdr_mem (id : BitVec 3) (b : Bool) : (s.setIdr id b).mem = s.mem := rfl
@[simp] theorem State.setIdr_tbl (id : BitVec 3) (b : Bool) : (s.setIdr id b).tbl = s.tbl := rfl
@[simp] theorem State.setIdr_crc (id : BitVec 3) (b : Bool) : (s.setIdr id b).crc = s.crc := rfl
@[simp] theorem State.setIdr_acc (id : BitVec 3) (b : Bool) : (s.setIdr id b).acc = s.acc := rfl
@[simp] theorem State.setIdr_off (id : BitVec 3) (b : Bool) : (s.setIdr id b).off = s.off := rfl
@[simp] theorem State.setIdr_arg0 (id : BitVec 3) (b : Bool) : (s.setIdr id b).arg0 = s.arg0 := rfl
@[simp] theorem State.setIdr_arg1 (id : BitVec 3) (b : Bool) : (s.setIdr id b).arg1 = s.arg1 := rfl
@[simp] theorem State.setIdr_len (id : BitVec 3) (b : Bool) : (s.setIdr id b).len = s.len := rfl
@[simp] theorem State.setIdr_status (id : BitVec 3) (b : Bool) : (s.setIdr id b).status = s.status := rfl
@[simp] theorem State.setIdr_dgst (id : BitVec 3) (b : Bool) : (s.setIdr id b).dgst = s.dgst := rfl
@[simp] theorem State.setIdr_idr (id : BitVec 3) (b : Bool) : (s.setIdr id b).idr = idrWord id b := rfl
@[simp] theorem State.setIdr_res0 (id : BitVec 3) (b : Bool) : (s.setIdr id b).res0 = s.res0 := rfl
@[simp] theorem State.setIdr_res1 (id : BitVec 3) (b : Bool) : (s.setIdr id b).res1 = s.res1 := rfl
@[simp] theorem State.setIdr_flags (id : BitVec 3) (b : Bool) : (s.setIdr id b).flags = s.flags := rfl
@[simp] theorem State.setIdr_inbox (id : BitVec 3) (b : Bool) : (s.setIdr id b).inbox = s.inbox := rfl
@[simp] theorem State.setIdr_returned (id : BitVec 3) (b : Bool) : (s.setIdr id b).returned = s.returned := rfl
@[simp] theorem State.setIdr_free (id : BitVec 3) (b : Bool) : (s.setIdr id b).free = s.free := rfl

/-! ### `setResult` -/

@[simp] theorem State.setResult_mem (v w : Word) : (s.setResult v w).mem = s.mem := rfl
@[simp] theorem State.setResult_tbl (v w : Word) : (s.setResult v w).tbl = s.tbl := rfl
@[simp] theorem State.setResult_crc (v w : Word) : (s.setResult v w).crc = s.crc := rfl
@[simp] theorem State.setResult_acc (v w : Word) : (s.setResult v w).acc = s.acc := rfl
@[simp] theorem State.setResult_off (v w : Word) : (s.setResult v w).off = s.off := rfl
@[simp] theorem State.setResult_arg0 (v w : Word) : (s.setResult v w).arg0 = s.arg0 := rfl
@[simp] theorem State.setResult_arg1 (v w : Word) : (s.setResult v w).arg1 = s.arg1 := rfl
@[simp] theorem State.setResult_len (v w : Word) : (s.setResult v w).len = s.len := rfl
@[simp] theorem State.setResult_status (v w : Word) : (s.setResult v w).status = s.status := rfl
@[simp] theorem State.setResult_dgst (v w : Word) : (s.setResult v w).dgst = s.dgst := rfl
@[simp] theorem State.setResult_idr (v w : Word) : (s.setResult v w).idr = s.idr := rfl
@[simp] theorem State.setResult_res0 (v w : Word) : (s.setResult v w).res0 = v := rfl
@[simp] theorem State.setResult_res1 (v w : Word) : (s.setResult v w).res1 = w := rfl
@[simp] theorem State.setResult_flags (v w : Word) : (s.setResult v w).flags = s.flags := rfl
@[simp] theorem State.setResult_inbox (v w : Word) : (s.setResult v w).inbox = s.inbox := rfl
@[simp] theorem State.setResult_returned (v w : Word) : (s.setResult v w).returned = s.returned := rfl
@[simp] theorem State.setResult_free (v w : Word) : (s.setResult v w).free = s.free := rfl

/-! ### `setRvalid` -/

@[simp] theorem State.setRvalid_mem (b : Bool) : (s.setRvalid b).mem = s.mem := rfl
@[simp] theorem State.setRvalid_tbl (b : Bool) : (s.setRvalid b).tbl = s.tbl := rfl
@[simp] theorem State.setRvalid_crc (b : Bool) : (s.setRvalid b).crc = s.crc := rfl
@[simp] theorem State.setRvalid_acc (b : Bool) : (s.setRvalid b).acc = s.acc := rfl
@[simp] theorem State.setRvalid_off (b : Bool) : (s.setRvalid b).off = s.off := rfl
@[simp] theorem State.setRvalid_arg0 (b : Bool) : (s.setRvalid b).arg0 = s.arg0 := rfl
@[simp] theorem State.setRvalid_arg1 (b : Bool) : (s.setRvalid b).arg1 = s.arg1 := rfl
@[simp] theorem State.setRvalid_len (b : Bool) : (s.setRvalid b).len = s.len := rfl
@[simp] theorem State.setRvalid_status (b : Bool) : (s.setRvalid b).status = s.status := rfl
@[simp] theorem State.setRvalid_dgst (b : Bool) : (s.setRvalid b).dgst = s.dgst := rfl
@[simp] theorem State.setRvalid_idr (b : Bool) : (s.setRvalid b).idr = s.idr := rfl
@[simp] theorem State.setRvalid_res0 (b : Bool) : (s.setRvalid b).res0 = s.res0 := rfl
@[simp] theorem State.setRvalid_res1 (b : Bool) : (s.setRvalid b).res1 = s.res1 := rfl
@[simp] theorem State.setRvalid_flags (b : Bool) : (s.setRvalid b).flags = putRvalid s.flags b := rfl
@[simp] theorem State.setRvalid_inbox (b : Bool) : (s.setRvalid b).inbox = s.inbox := rfl
@[simp] theorem State.setRvalid_returned (b : Bool) : (s.setRvalid b).returned = s.returned := rfl
@[simp] theorem State.setRvalid_free (b : Bool) : (s.setRvalid b).free = s.free := rfl

/-! ### `setFixes` -/

@[simp] theorem State.setFixes_mem (b c : Bool) : (s.setFixes b c).mem = s.mem := rfl
@[simp] theorem State.setFixes_tbl (b c : Bool) : (s.setFixes b c).tbl = s.tbl := rfl
@[simp] theorem State.setFixes_crc (b c : Bool) : (s.setFixes b c).crc = s.crc := rfl
@[simp] theorem State.setFixes_acc (b c : Bool) : (s.setFixes b c).acc = s.acc := rfl
@[simp] theorem State.setFixes_off (b c : Bool) : (s.setFixes b c).off = s.off := rfl
@[simp] theorem State.setFixes_arg0 (b c : Bool) : (s.setFixes b c).arg0 = s.arg0 := rfl
@[simp] theorem State.setFixes_arg1 (b c : Bool) : (s.setFixes b c).arg1 = s.arg1 := rfl
@[simp] theorem State.setFixes_len (b c : Bool) : (s.setFixes b c).len = s.len := rfl
@[simp] theorem State.setFixes_status (b c : Bool) : (s.setFixes b c).status = s.status := rfl
@[simp] theorem State.setFixes_dgst (b c : Bool) : (s.setFixes b c).dgst = s.dgst := rfl
@[simp] theorem State.setFixes_idr (b c : Bool) : (s.setFixes b c).idr = s.idr := rfl
@[simp] theorem State.setFixes_res0 (b c : Bool) : (s.setFixes b c).res0 = s.res0 := rfl
@[simp] theorem State.setFixes_res1 (b c : Bool) : (s.setFixes b c).res1 = s.res1 := rfl
@[simp] theorem State.setFixes_flags (b c : Bool) : (s.setFixes b c).flags = putFixes s.flags b c := rfl
@[simp] theorem State.setFixes_inbox (b c : Bool) : (s.setFixes b c).inbox = s.inbox := rfl
@[simp] theorem State.setFixes_returned (b c : Bool) : (s.setFixes b c).returned = s.returned := rfl
@[simp] theorem State.setFixes_free (b c : Bool) : (s.setFixes b c).free = s.free := rfl

/-! ### `setMem` -/

@[simp] theorem State.setMem_mem (m : Memory) : (s.setMem m).mem = m := rfl
@[simp] theorem State.setMem_tbl (m : Memory) : (s.setMem m).tbl = s.tbl := rfl
@[simp] theorem State.setMem_crc (m : Memory) : (s.setMem m).crc = s.crc := rfl
@[simp] theorem State.setMem_acc (m : Memory) : (s.setMem m).acc = s.acc := rfl
@[simp] theorem State.setMem_off (m : Memory) : (s.setMem m).off = s.off := rfl
@[simp] theorem State.setMem_arg0 (m : Memory) : (s.setMem m).arg0 = s.arg0 := rfl
@[simp] theorem State.setMem_arg1 (m : Memory) : (s.setMem m).arg1 = s.arg1 := rfl
@[simp] theorem State.setMem_len (m : Memory) : (s.setMem m).len = s.len := rfl
@[simp] theorem State.setMem_status (m : Memory) : (s.setMem m).status = s.status := rfl
@[simp] theorem State.setMem_dgst (m : Memory) : (s.setMem m).dgst = s.dgst := rfl
@[simp] theorem State.setMem_idr (m : Memory) : (s.setMem m).idr = s.idr := rfl
@[simp] theorem State.setMem_res0 (m : Memory) : (s.setMem m).res0 = s.res0 := rfl
@[simp] theorem State.setMem_res1 (m : Memory) : (s.setMem m).res1 = s.res1 := rfl
@[simp] theorem State.setMem_flags (m : Memory) : (s.setMem m).flags = s.flags := rfl
@[simp] theorem State.setMem_inbox (m : Memory) : (s.setMem m).inbox = s.inbox := rfl
@[simp] theorem State.setMem_returned (m : Memory) : (s.setMem m).returned = s.returned := rfl
@[simp] theorem State.setMem_free (m : Memory) : (s.setMem m).free = s.free := rfl

/-! ### `setArg0` -/

@[simp] theorem State.setArg0_mem (v : Word) : (s.setArg0 v).mem = s.mem := rfl
@[simp] theorem State.setArg0_tbl (v : Word) : (s.setArg0 v).tbl = s.tbl := rfl
@[simp] theorem State.setArg0_crc (v : Word) : (s.setArg0 v).crc = s.crc := rfl
@[simp] theorem State.setArg0_acc (v : Word) : (s.setArg0 v).acc = s.acc := rfl
@[simp] theorem State.setArg0_off (v : Word) : (s.setArg0 v).off = s.off := rfl
@[simp] theorem State.setArg0_arg0 (v : Word) : (s.setArg0 v).arg0 = v := rfl
@[simp] theorem State.setArg0_arg1 (v : Word) : (s.setArg0 v).arg1 = s.arg1 := rfl
@[simp] theorem State.setArg0_len (v : Word) : (s.setArg0 v).len = s.len := rfl
@[simp] theorem State.setArg0_status (v : Word) : (s.setArg0 v).status = s.status := rfl
@[simp] theorem State.setArg0_dgst (v : Word) : (s.setArg0 v).dgst = s.dgst := rfl
@[simp] theorem State.setArg0_idr (v : Word) : (s.setArg0 v).idr = s.idr := rfl
@[simp] theorem State.setArg0_res0 (v : Word) : (s.setArg0 v).res0 = s.res0 := rfl
@[simp] theorem State.setArg0_res1 (v : Word) : (s.setArg0 v).res1 = s.res1 := rfl
@[simp] theorem State.setArg0_flags (v : Word) : (s.setArg0 v).flags = s.flags := rfl
@[simp] theorem State.setArg0_inbox (v : Word) : (s.setArg0 v).inbox = s.inbox := rfl
@[simp] theorem State.setArg0_returned (v : Word) : (s.setArg0 v).returned = s.returned := rfl
@[simp] theorem State.setArg0_free (v : Word) : (s.setArg0 v).free = s.free := rfl

/-! ### `setArg1` -/

@[simp] theorem State.setArg1_mem (v : Word) : (s.setArg1 v).mem = s.mem := rfl
@[simp] theorem State.setArg1_tbl (v : Word) : (s.setArg1 v).tbl = s.tbl := rfl
@[simp] theorem State.setArg1_crc (v : Word) : (s.setArg1 v).crc = s.crc := rfl
@[simp] theorem State.setArg1_acc (v : Word) : (s.setArg1 v).acc = s.acc := rfl
@[simp] theorem State.setArg1_off (v : Word) : (s.setArg1 v).off = s.off := rfl
@[simp] theorem State.setArg1_arg0 (v : Word) : (s.setArg1 v).arg0 = s.arg0 := rfl
@[simp] theorem State.setArg1_arg1 (v : Word) : (s.setArg1 v).arg1 = v := rfl
@[simp] theorem State.setArg1_len (v : Word) : (s.setArg1 v).len = s.len := rfl
@[simp] theorem State.setArg1_status (v : Word) : (s.setArg1 v).status = s.status := rfl
@[simp] theorem State.setArg1_dgst (v : Word) : (s.setArg1 v).dgst = s.dgst := rfl
@[simp] theorem State.setArg1_idr (v : Word) : (s.setArg1 v).idr = s.idr := rfl
@[simp] theorem State.setArg1_res0 (v : Word) : (s.setArg1 v).res0 = s.res0 := rfl
@[simp] theorem State.setArg1_res1 (v : Word) : (s.setArg1 v).res1 = s.res1 := rfl
@[simp] theorem State.setArg1_flags (v : Word) : (s.setArg1 v).flags = s.flags := rfl
@[simp] theorem State.setArg1_inbox (v : Word) : (s.setArg1 v).inbox = s.inbox := rfl
@[simp] theorem State.setArg1_returned (v : Word) : (s.setArg1 v).returned = s.returned := rfl
@[simp] theorem State.setArg1_free (v : Word) : (s.setArg1 v).free = s.free := rfl

/-! ### `setLen` -/

@[simp] theorem State.setLen_mem (v : Word) : (s.setLen v).mem = s.mem := rfl
@[simp] theorem State.setLen_tbl (v : Word) : (s.setLen v).tbl = s.tbl := rfl
@[simp] theorem State.setLen_crc (v : Word) : (s.setLen v).crc = s.crc := rfl
@[simp] theorem State.setLen_acc (v : Word) : (s.setLen v).acc = s.acc := rfl
@[simp] theorem State.setLen_off (v : Word) : (s.setLen v).off = s.off := rfl
@[simp] theorem State.setLen_arg0 (v : Word) : (s.setLen v).arg0 = s.arg0 := rfl
@[simp] theorem State.setLen_arg1 (v : Word) : (s.setLen v).arg1 = s.arg1 := rfl
@[simp] theorem State.setLen_len (v : Word) : (s.setLen v).len = v := rfl
@[simp] theorem State.setLen_status (v : Word) : (s.setLen v).status = s.status := rfl
@[simp] theorem State.setLen_dgst (v : Word) : (s.setLen v).dgst = s.dgst := rfl
@[simp] theorem State.setLen_idr (v : Word) : (s.setLen v).idr = s.idr := rfl
@[simp] theorem State.setLen_res0 (v : Word) : (s.setLen v).res0 = s.res0 := rfl
@[simp] theorem State.setLen_res1 (v : Word) : (s.setLen v).res1 = s.res1 := rfl
@[simp] theorem State.setLen_flags (v : Word) : (s.setLen v).flags = s.flags := rfl
@[simp] theorem State.setLen_inbox (v : Word) : (s.setLen v).inbox = s.inbox := rfl
@[simp] theorem State.setLen_returned (v : Word) : (s.setLen v).returned = s.returned := rfl
@[simp] theorem State.setLen_free (v : Word) : (s.setLen v).free = s.free := rfl

/-! ### `giveBack` -/

@[simp] theorem State.giveBack_mem (v : Word) : (s.giveBack v).mem = s.mem := rfl
@[simp] theorem State.giveBack_tbl (v : Word) : (s.giveBack v).tbl = s.tbl := rfl
@[simp] theorem State.giveBack_crc (v : Word) : (s.giveBack v).crc = s.crc := rfl
@[simp] theorem State.giveBack_acc (v : Word) : (s.giveBack v).acc = s.acc := rfl
@[simp] theorem State.giveBack_off (v : Word) : (s.giveBack v).off = s.off := rfl
@[simp] theorem State.giveBack_arg0 (v : Word) : (s.giveBack v).arg0 = s.arg0 := rfl
@[simp] theorem State.giveBack_arg1 (v : Word) : (s.giveBack v).arg1 = s.arg1 := rfl
@[simp] theorem State.giveBack_len (v : Word) : (s.giveBack v).len = s.len := rfl
@[simp] theorem State.giveBack_status (v : Word) : (s.giveBack v).status = s.status := rfl
@[simp] theorem State.giveBack_dgst (v : Word) : (s.giveBack v).dgst = s.dgst := rfl
@[simp] theorem State.giveBack_idr (v : Word) : (s.giveBack v).idr = s.idr := rfl
@[simp] theorem State.giveBack_res0 (v : Word) : (s.giveBack v).res0 = s.res0 := rfl
@[simp] theorem State.giveBack_res1 (v : Word) : (s.giveBack v).res1 = s.res1 := rfl
@[simp] theorem State.giveBack_flags (v : Word) : (s.giveBack v).flags = s.flags := rfl
@[simp] theorem State.giveBack_inbox (v : Word) : (s.giveBack v).inbox = s.inbox := rfl
@[simp] theorem State.giveBack_returned (v : Word) : (s.giveBack v).returned = v :: s.returned := rfl
@[simp] theorem State.giveBack_free (v : Word) : (s.giveBack v).free = s.free := rfl

/-! ### `setInbox` -/

@[simp] theorem State.setInbox_mem (l : List HostAction) : (s.setInbox l).mem = s.mem := rfl
@[simp] theorem State.setInbox_tbl (l : List HostAction) : (s.setInbox l).tbl = s.tbl := rfl
@[simp] theorem State.setInbox_crc (l : List HostAction) : (s.setInbox l).crc = s.crc := rfl
@[simp] theorem State.setInbox_acc (l : List HostAction) : (s.setInbox l).acc = s.acc := rfl
@[simp] theorem State.setInbox_off (l : List HostAction) : (s.setInbox l).off = s.off := rfl
@[simp] theorem State.setInbox_arg0 (l : List HostAction) : (s.setInbox l).arg0 = s.arg0 := rfl
@[simp] theorem State.setInbox_arg1 (l : List HostAction) : (s.setInbox l).arg1 = s.arg1 := rfl
@[simp] theorem State.setInbox_len (l : List HostAction) : (s.setInbox l).len = s.len := rfl
@[simp] theorem State.setInbox_status (l : List HostAction) : (s.setInbox l).status = s.status := rfl
@[simp] theorem State.setInbox_dgst (l : List HostAction) : (s.setInbox l).dgst = s.dgst := rfl
@[simp] theorem State.setInbox_idr (l : List HostAction) : (s.setInbox l).idr = s.idr := rfl
@[simp] theorem State.setInbox_res0 (l : List HostAction) : (s.setInbox l).res0 = s.res0 := rfl
@[simp] theorem State.setInbox_res1 (l : List HostAction) : (s.setInbox l).res1 = s.res1 := rfl
@[simp] theorem State.setInbox_flags (l : List HostAction) : (s.setInbox l).flags = s.flags := rfl
@[simp] theorem State.setInbox_inbox (l : List HostAction) : (s.setInbox l).inbox = l := rfl
@[simp] theorem State.setInbox_returned (l : List HostAction) : (s.setInbox l).returned = s.returned := rfl
@[simp] theorem State.setInbox_free (l : List HostAction) : (s.setInbox l).free = s.free := rfl

/-! ### `discardCrc` -/

@[simp] theorem State.discardCrc_mem : s.discardCrc.mem = s.mem := rfl
@[simp] theorem State.discardCrc_tbl : s.discardCrc.tbl = s.tbl := rfl
@[simp] theorem State.discardCrc_crc : s.discardCrc.crc = Config.freeWord s.free := rfl
@[simp] theorem State.discardCrc_acc : s.discardCrc.acc = s.acc := rfl
@[simp] theorem State.discardCrc_off : s.discardCrc.off = s.off := rfl
@[simp] theorem State.discardCrc_arg0 : s.discardCrc.arg0 = s.arg0 := rfl
@[simp] theorem State.discardCrc_arg1 : s.discardCrc.arg1 = s.arg1 := rfl
@[simp] theorem State.discardCrc_len : s.discardCrc.len = s.len := rfl
@[simp] theorem State.discardCrc_status : s.discardCrc.status = s.status := rfl
@[simp] theorem State.discardCrc_dgst : s.discardCrc.dgst = s.dgst := rfl
@[simp] theorem State.discardCrc_idr : s.discardCrc.idr = s.idr := rfl
@[simp] theorem State.discardCrc_res0 : s.discardCrc.res0 = s.res0 := rfl
@[simp] theorem State.discardCrc_res1 : s.discardCrc.res1 = s.res1 := rfl
@[simp] theorem State.discardCrc_flags : s.discardCrc.flags = s.flags := rfl
@[simp] theorem State.discardCrc_inbox : s.discardCrc.inbox = s.inbox := rfl
@[simp] theorem State.discardCrc_returned : s.discardCrc.returned = s.returned := rfl
@[simp] theorem State.discardCrc_free : s.discardCrc.free = s.free + 1 := rfl

/-! ### `discardAcc` -/

@[simp] theorem State.discardAcc_mem : s.discardAcc.mem = s.mem := rfl
@[simp] theorem State.discardAcc_tbl : s.discardAcc.tbl = s.tbl := rfl
@[simp] theorem State.discardAcc_crc : s.discardAcc.crc = s.crc := rfl
@[simp] theorem State.discardAcc_acc : s.discardAcc.acc = freeAcc s.free := rfl
@[simp] theorem State.discardAcc_off : s.discardAcc.off = Config.freeWord (s.free + 7) := rfl
@[simp] theorem State.discardAcc_arg0 : s.discardAcc.arg0 = s.arg0 := rfl
@[simp] theorem State.discardAcc_arg1 : s.discardAcc.arg1 = s.arg1 := rfl
@[simp] theorem State.discardAcc_len : s.discardAcc.len = s.len := rfl
@[simp] theorem State.discardAcc_status : s.discardAcc.status = s.status := rfl
@[simp] theorem State.discardAcc_dgst : s.discardAcc.dgst = s.dgst := rfl
@[simp] theorem State.discardAcc_idr : s.discardAcc.idr = s.idr := rfl
@[simp] theorem State.discardAcc_res0 : s.discardAcc.res0 = s.res0 := rfl
@[simp] theorem State.discardAcc_res1 : s.discardAcc.res1 = s.res1 := rfl
@[simp] theorem State.discardAcc_flags : s.discardAcc.flags = s.flags := rfl
@[simp] theorem State.discardAcc_inbox : s.discardAcc.inbox = s.inbox := rfl
@[simp] theorem State.discardAcc_returned : s.discardAcc.returned = s.returned := rfl
@[simp] theorem State.discardAcc_free : s.discardAcc.free = s.free + 8 := rfl

/-! ### `discardResult` -/

@[simp] theorem State.discardResult_mem : s.discardResult.mem = s.mem := rfl
@[simp] theorem State.discardResult_tbl : s.discardResult.tbl = s.tbl := rfl
@[simp] theorem State.discardResult_crc : s.discardResult.crc = s.crc := rfl
@[simp] theorem State.discardResult_acc : s.discardResult.acc = s.acc := rfl
@[simp] theorem State.discardResult_off : s.discardResult.off = s.off := rfl
@[simp] theorem State.discardResult_arg0 : s.discardResult.arg0 = s.arg0 := rfl
@[simp] theorem State.discardResult_arg1 : s.discardResult.arg1 = s.arg1 := rfl
@[simp] theorem State.discardResult_len : s.discardResult.len = s.len := rfl
@[simp] theorem State.discardResult_status : s.discardResult.status = s.status := rfl
@[simp] theorem State.discardResult_dgst : s.discardResult.dgst = s.dgst := rfl
@[simp] theorem State.discardResult_idr : s.discardResult.idr = s.idr := rfl
@[simp] theorem State.discardResult_res0 : s.discardResult.res0 = Config.freeWord s.free := rfl
@[simp] theorem State.discardResult_res1 : s.discardResult.res1 = Config.freeWord (s.free + 1) := rfl
@[simp] theorem State.discardResult_flags : s.discardResult.flags = s.flags := rfl
@[simp] theorem State.discardResult_inbox : s.discardResult.inbox = s.inbox := rfl
@[simp] theorem State.discardResult_returned : s.discardResult.returned = s.returned := rfl
@[simp] theorem State.discardResult_free : s.discardResult.free = s.free + 2 := rfl

/-! ### `giveFree` -/

@[simp] theorem State.giveFree_mem : s.giveFree.mem = s.mem := rfl
@[simp] theorem State.giveFree_tbl : s.giveFree.tbl = s.tbl := rfl
@[simp] theorem State.giveFree_crc : s.giveFree.crc = s.crc := rfl
@[simp] theorem State.giveFree_acc : s.giveFree.acc = s.acc := rfl
@[simp] theorem State.giveFree_off : s.giveFree.off = s.off := rfl
@[simp] theorem State.giveFree_arg0 : s.giveFree.arg0 = s.arg0 := rfl
@[simp] theorem State.giveFree_arg1 : s.giveFree.arg1 = s.arg1 := rfl
@[simp] theorem State.giveFree_len : s.giveFree.len = s.len := rfl
@[simp] theorem State.giveFree_status : s.giveFree.status = s.status := rfl
@[simp] theorem State.giveFree_dgst : s.giveFree.dgst = s.dgst := rfl
@[simp] theorem State.giveFree_idr : s.giveFree.idr = s.idr := rfl
@[simp] theorem State.giveFree_res0 : s.giveFree.res0 = s.res0 := rfl
@[simp] theorem State.giveFree_res1 : s.giveFree.res1 = s.res1 := rfl
@[simp] theorem State.giveFree_flags : s.giveFree.flags = s.flags := rfl
@[simp] theorem State.giveFree_inbox : s.giveFree.inbox = s.inbox := rfl
@[simp] theorem State.giveFree_returned : s.giveFree.returned = Config.freeWord s.free :: s.returned := rfl
@[simp] theorem State.giveFree_free : s.giveFree.free = s.free + 1 := rfl

end Sys2Proof.Machine
end

