-- ==== Sys2Proof/Laws/Ops.lean ====
section
/-! SUPPORT. One lemma for each shared operation, saying what it can do: taking an error, the seven steps of an iteration, the
patch function, and the host's register accesses. -/

namespace Sys2Proof.Machine

/-! ## The table -/

theorem generatedTable_eq : generatedTable = Vector.ofFn fun i => tblgen ⟨i⟩ := by
  unfold generatedTable
  rfl

/-- The generated table holds `tblgen`, entry by entry (R90). -/
theorem tableEntry_generatedTable (i : BitVec 8) : tableEntry generatedTable i = tblgen i := by
  rw [tableEntry, generatedTable_eq, Vector.get_eq_getElem, Vector.getElem_ofFn]

/-! ## Taking an error -/

/-- An error raised by `PATCH` or the decoder changes `STATUS` alone. -/
theorem raisePlain_eq (e : ErrorKind) (s : State) :
    raisePlain e s = { s with status := statusWord (errorCode e) } := rfl

/-- An error raised by `CKSUM` changes `STATUS`, clears `RVALID` and leaves `RES0` and `RES1` free. -/
theorem raiseByCksum_eq (e : ErrorKind) (s : State) :
    raiseByCksum e s =
      { s with
        status := statusWord (errorCode e), flags := putRvalid s.flags false,
        res0 := Config.freeWord s.free, res1 := Config.freeWord (s.free + 1), free := s.free + 2 } := rfl

/-! ## One iteration, register by register (R114) -/

theorem accStep_t4 (idn : Identity) (d aux : Word) (a : Acc) :
    (accStep idn d aux a).t4 = if carry32 a.t6 d then add32 a.t4 1 else a.t4 := by
  simp only [accStep, accVariant, accMix, accRotated, accSum, accCarry]
  split_ifs <;> rfl

theorem accStep_t6 (idn : Identity) (d aux : Word) (a : Acc) :
    (accStep idn d aux a).t6 = add32 a.t6 d := by
  simp only [accStep, accVariant, accMix, accRotated, accSum, accCarry]
  split_ifs <;> rfl

theorem accStep_t3 (idn : Identity) (d aux : Word) (a : Acc) :
    (accStep idn d aux a).t3 = a.t3 ^^^ d := by
  simp only [accStep, accVariant, accMix, accRotated, accSum, accCarry]
  split_ifs <;> rfl

theorem accStep_t5 (idn : Identity) (d aux : Word) (a : Acc) :
    (accStep idn d aux a).t5 = add32 a.t5 (rotatedWord d) := by
  simp only [accStep, accVariant, accMix, accRotated, accSum, accCarry]
  split_ifs <;> rfl

theorem accStep_t2 (idn : Identity) (d aux : Word) (a : Acc) :
    (accStep idn d aux a).t2 =
      if ugt a.t2 d then a.t2 ^^^ rotatedWord d else a.t2 ^^^ (add32 a.t6 d ^^^ d) := by
  simp only [accStep, accVariant, accMix, accRotated, accSum, accCarry]
  split_ifs <;> rfl

theorem accStep_t1 (idn : Identity) (d aux : Word) (a : Acc) :
    (accStep idn d aux a).t1 =
      if idn = .v5 then add32 a.t1 (aux ^^^ d) else add32 a.t1 (add32 a.t5 (rotatedWord d) ^^^ d) := by
  simp only [accStep, accVariant, accMix, accRotated, accSum, accCarry]
  split_ifs <;> rfl

theorem accStep_t7 (idn : Identity) (d aux : Word) (a : Acc) :
    (accStep idn d aux a).t7 = if idn = .v5 then aux else a.t7 := by
  simp only [accStep, accVariant, accMix, accRotated, accSum, accCarry]
  split_ifs <;> rfl

/-! ## The patch function -/

theorem patchField_wf {m : Memory} {a : Nat} (fix : Bool) (v : Word) (h : m.wf = true) (ha : a + 3 < 2 ^ 32) :
    (patchField m a fix v).wf = true := by
  unfold patchField
  split
  · exact Memory.wf_write32 a v h ha
  · exact h

theorem patchField_read_other (m : Memory) {a x : Nat} (fix : Bool) (v : Word) (hx : x < a ∨ a + 4 ≤ x) :
    (patchField m a fix v).read x = m.read x := by
  unfold patchField
  split
  · exact Memory.read_write32_other m v hx
  · rfl

theorem patchField_read32_other (m : Memory) {a x : Nat} (fix : Bool) (v : Word) (hx : x + 4 ≤ a ∨ a + 4 ≤ x) :
    (patchField m a fix v).read32 x = m.read32 x :=
  Memory.read32_congr fun j hj => patchField_read_other m fix v (by omega)

/-- The patch function keeps the canonical form. -/
theorem patch_wf (p : Config.Params) {m : Memory} (word0 word1 : Word) (h : m.wf = true) :
    (patch p m word0 word1).1.wf = true :=
  patchField_wf _ _ (patchField_wf _ _ h (by decide)) (by decide)

/-- The patch function writes no byte outside the two header fields. -/
theorem patch_read_other (p : Config.Params) (m : Memory) (word0 word1 : Word) {x : Nat}
    (hx : x < Config.crc1Off ∨ Config.crc2Off + 4 ≤ x) :
    (patch p m word0 word1).1.read x = m.read x := by
  have h1 : Config.crc1Off = 0x10 := rfl
  have h2 : Config.crc2Off = 0x14 := rfl
  exact (patchField_read_other _ _ _ (by omega)).trans (patchField_read_other _ _ _ (by omega))

/-! ## Register accesses of the host -/

/-- A register write other than of `CMD` changes at most `ARG0`, `ARG1` or `LEN`. -/
theorem writeReg_cases (r : Reg) (v : Word) (s : State) :
    writeReg r v s = s ∨ writeReg r v s = s.setArg0 v ∨ writeReg r v s = s.setArg1 v ∨
      writeReg r v s = s.setLen v := by
  cases r <;> simp [writeReg]

/-- A register read changes only what was returned to the host, and the counter of free values. -/
theorem readReg_cases (r : Reg) (s : State) :
    (∃ v, readReg r s = s.giveBack v) ∨ readReg r s = s.giveFree := by
  cases r
  case cmd => exact .inr rfl
  case res0 =>
    cases h : flagRvalid s.flags with
    | true => exact .inl ⟨s.res0, by simp [readReg, h]⟩
    | false => exact .inr (by simp [readReg, h])
  case res1 =>
    cases h : flagRvalid s.flags with
    | true => exact .inl ⟨s.res1, by simp [readReg, h]⟩
    | false => exact .inr (by simp [readReg, h])
  all_goals exact .inl ⟨_, rfl⟩

/-- `andThen` gives a next state exactly when both parts do. -/
theorem andThen_next {o : Host.Outcome State Fault Refusal} {f : State → Host.Outcome State Fault Refusal}
    {t : State} : andThen o f = .next t ↔ ∃ s, o = .next s ∧ f s = .next t := by
  cases o <;> simp [andThen]

end Sys2Proof.Machine
end

