-- ==== Sys2Proof/Laws/Exec.lean ====
section
/-! SUPPORT. For each command, and for the step, everything it can do: one lemma each, for the provers to cite instead of
unfolding. -/

namespace Sys2Proof.Machine

/-- What `DIGEST` can answer. -/
theorem execDigest_eq (s : State) :
    (rangeInBuffer s s.arg0.toNat s.arg1.toNat = true ∧
      execDigest s =
        .next (((s.setDgst (digest s.tbl s.mem s.arg0.toNat s.arg1.toNat)).discardCrc).setCode codeOk)) ∨
    (rangeInBuffer s s.arg0.toNat s.arg1.toNat = false ∧ execDigest s = .fault .rangeUndefined) := by
  unfold execDigest
  cases rangeInBuffer s s.arg0.toNat s.arg1.toNat <;> simp

/-- What `IDENT` can answer. -/
theorem execIdent_eq (s : State) :
    (rangeInBuffer s Config.fpStart Config.fpLen = true ∧
      execIdent s =
        .next ((((s.setDgst (fingerprint s.tbl s.mem)).setIdr
          (identityCode (matchFingerprint (fingerprint s.tbl s.mem)).1)
          (matchFingerprint (fingerprint s.tbl s.mem)).2).discardCrc).setCode codeOk)) ∨
    (rangeInBuffer s Config.fpStart Config.fpLen = false ∧ execIdent s = .fault .rangeUndefined) := by
  unfold execIdent
  cases rangeInBuffer s Config.fpStart Config.fpLen <;> simp

/-- The state after a `CKSUM` that completes. -/
def afterCksum (idn : Identity) (s : State) : State :=
  (((s.setResult (computeChecksum Config.params s.mem idn).1
    (computeChecksum Config.params s.mem idn).2).setRvalid true).discardAcc).setCode codeOk

/-- A `CKSUM` that completes holds its result. -/
@[simp] theorem flagRvalid_afterCksum (idn : Identity) (s : State) : flagRvalid (afterCksum idn s).flags = true := by
  simp [afterCksum]

/-- The pair a `CKSUM` that completes leaves. -/
theorem afterCksum_result (idn : Identity) (s : State) :
    ((afterCksum idn s).res0, (afterCksum idn s).res1) = computeChecksum Config.params s.mem idn := by
  simp [afterCksum]

/-- What `CKSUM` can answer. -/
theorem execCksum_eq (id : BitVec 3) (s : State) :
    (identityOfCode id = none ∧ execCksum id s = .next (raiseByCksum .unsupportedBootChip s)) ∨
    (∃ idn, identityOfCode id = some idn ∧ s.len.toNat < Config.minLen ∧
      execCksum id s = .next (raiseByCksum .truncatedImage s)) ∨
    (∃ idn, identityOfCode id = some idn ∧ Config.minLen ≤ s.len.toNat ∧
      execCksum id s = .next (afterCksum idn s)) := by
  unfold execCksum
  cases h : identityOfCode id with
  | none => exact .inl ⟨rfl, rfl⟩
  | some idn =>
    rcases Nat.lt_or_ge s.len.toNat Config.minLen with hl | hl
    · exact .inr (.inl ⟨idn, rfl, hl, if_pos hl⟩)
    · exact .inr (.inr ⟨idn, rfl, hl, if_neg (Nat.not_lt.2 hl)⟩)

/-- The state after a `PATCH` that completes. -/
def afterPatch (s : State) : State :=
  ((s.setMem (patch Config.params s.mem s.res0 s.res1).1).setFixes
    (patch Config.params s.mem s.res0 s.res1).2.1 (patch Config.params s.mem s.res0 s.res1).2.2).setCode codeOk

/-- A `PATCH` that completes keeps `RVALID`. -/
@[simp] theorem flagRvalid_afterPatch (s : State) : flagRvalid (afterPatch s).flags = flagRvalid s.flags := by
  simp [afterPatch]

/-- What `PATCH` can answer. -/
theorem execPatch_eq (s : State) :
    (flagRvalid s.flags = false ∧ execPatch s = .next (raisePlain .noResult s)) ∨
    (flagRvalid s.flags = true ∧ s.len.toNat < Config.patchMinLen ∧
      execPatch s = .next (raisePlain .truncatedImage s)) ∨
    (flagRvalid s.flags = true ∧ Config.patchMinLen ≤ s.len.toNat ∧
      execPatch s = .next (afterPatch s)) := by
  unfold execPatch
  cases h : flagRvalid s.flags with
  | false => exact .inl ⟨rfl, rfl⟩
  | true =>
    rcases Nat.lt_or_ge s.len.toNat Config.patchMinLen with hl | hl
    · exact .inr (.inl ⟨rfl, hl, by simp [hl]⟩)
    · exact .inr (.inr ⟨rfl, hl, by simp [Nat.not_lt.2 hl, afterPatch]⟩)

/-- The states a command can end in, one line for each way it can end. -/
theorem exec_next_cases {i : Instr} {s t : State} (h : exec i s = .next t) :
    (i = .digest ∧ rangeInBuffer s s.arg0.toNat s.arg1.toNat = true ∧
      t = ((s.setDgst (digest s.tbl s.mem s.arg0.toNat s.arg1.toNat)).discardCrc).setCode codeOk) ∨
    (i = .ident ∧ rangeInBuffer s Config.fpStart Config.fpLen = true ∧
      t = (((s.setDgst (fingerprint s.tbl s.mem)).setIdr
          (identityCode (matchFingerprint (fingerprint s.tbl s.mem)).1)
          (matchFingerprint (fingerprint s.tbl s.mem)).2).discardCrc).setCode codeOk) ∨
    (∃ id, i = .cksum id ∧ identityOfCode id = none ∧ t = raiseByCksum .unsupportedBootChip s) ∨
    (∃ id idn, i = .cksum id ∧ identityOfCode id = some idn ∧ s.len.toNat < Config.minLen ∧
      t = raiseByCksum .truncatedImage s) ∨
    (∃ id idn, i = .cksum id ∧ identityOfCode id = some idn ∧ Config.minLen ≤ s.len.toNat ∧
      t = afterCksum idn s) ∨
    (i = .patch ∧ flagRvalid s.flags = false ∧ t = raisePlain .noResult s) ∨
    (i = .patch ∧ flagRvalid s.flags = true ∧ s.len.toNat < Config.patchMinLen ∧
      t = raisePlain .truncatedImage s) ∨
    (i = .patch ∧ flagRvalid s.flags = true ∧ Config.patchMinLen ≤ s.len.toNat ∧ t = afterPatch s) := by
  cases i with
  | digest =>
    rcases execDigest_eq s with ⟨hr, he⟩ | ⟨-, he⟩ <;> rw [exec, he] at h
    · exact .inl ⟨rfl, hr, by cases h; rfl⟩
    · cases h
  | ident =>
    rcases execIdent_eq s with ⟨hr, he⟩ | ⟨-, he⟩ <;> rw [exec, he] at h
    · exact .inr (.inl ⟨rfl, hr, by cases h; rfl⟩)
    · cases h
  | cksum id =>
    rcases execCksum_eq id s with ⟨hn, he⟩ | ⟨idn, hi, hl, he⟩ | ⟨idn, hi, hl, he⟩ <;> rw [exec, he] at h
    · exact .inr (.inr (.inl ⟨id, rfl, hn, by cases h; rfl⟩))
    · exact .inr (.inr (.inr (.inl ⟨id, idn, rfl, hi, hl, by cases h; rfl⟩)))
    · exact .inr (.inr (.inr (.inr (.inl ⟨id, idn, rfl, hi, hl, by cases h; rfl⟩))))
  | patch =>
    rcases execPatch_eq s with ⟨hv, he⟩ | ⟨hv, hl, he⟩ | ⟨hv, hl, he⟩ <;> rw [exec, he] at h
    · exact .inr (.inr (.inr (.inr (.inr (.inl ⟨rfl, hv, by cases h; rfl⟩)))))
    · exact .inr (.inr (.inr (.inr (.inr (.inr (.inl ⟨rfl, hv, hl, by cases h; rfl⟩))))))
    · exact .inr (.inr (.inr (.inr (.inr (.inr (.inr ⟨rfl, hv, hl, by cases h; rfl⟩))))))

/-- The states a host action can end in. -/
theorem hostAct_next_cases {a : HostAction} {s t : State} (h : hostAct a s = .next t) :
    (∃ w i, a = .write .cmd w ∧ decode w = .command i ∧ exec i s = .next t) ∨
    (∃ w why, a = .write .cmd w ∧ decode w = .illegal why ∧ t = raisePlain .illegalCommand s) ∨
    (∃ r v, a = .write r v ∧ r ≠ .cmd ∧ t = writeReg r v s) ∨
    (∃ r, a = .read r ∧ t = readReg r s) ∨
    (∃ x b, a = .poke x b ∧ t = s.setMem (s.mem.write x.toNat b)) ∨
    (a = .reset ∧ t = applyReset s) := by
  cases a with
  | write r v =>
    cases r
    case cmd =>
      cases hd : decode v with
      | command i => exact .inl ⟨v, i, rfl, hd, by simpa [hostAct, issue, hd] using h⟩
      | illegal why =>
        refine .inr (.inl ⟨v, why, rfl, hd, ?_⟩)
        simp only [hostAct, issue, hd] at h
        cases h
        rfl
    all_goals exact .inr (.inr (.inl ⟨_, v, rfl, by decide, by cases h; rfl⟩))
  | read r => exact .inr (.inr (.inr (.inl ⟨r, rfl, by cases h; rfl⟩)))
  | poke x b => exact .inr (.inr (.inr (.inr (.inl ⟨x, b, rfl, by cases h; rfl⟩))))
  | reset => exact .inr (.inr (.inr (.inr (.inr ⟨rfl, by cases h; rfl⟩))))

/-- A step idles, or takes the first of the host's actions. -/
theorem step_cases (s : State) :
    (s.inbox = [] ∧ step s = .next s) ∨
    (∃ a rest, s.inbox = a :: rest ∧ step s = hostAct a (s.setInbox rest)) := by
  unfold step takeAction
  cases h : s.inbox with
  | nil => exact .inl ⟨rfl, rfl⟩
  | cons a rest => exact .inr ⟨a, rest, rfl, rfl⟩

/-- A run of `n + 1` steps whose first gives a next state is the run of `n` steps from there. -/
theorem core_run_succ {n : Nat} {s t : State} (h : step s = .next t) :
    Sys2Proof.core.run (n + 1) s = Sys2Proof.core.run n t := by
  have hc : Sys2Proof.core.step s = .next t := h
  simp only [Host.Core.run, hc]

end Sys2Proof.Machine
end

