-- ==== Sys2Proof/Laws/PerInstr.lean ====
section
/-! SUPPORT. What holds of every command as syntax, one lemma per constructor. -/

namespace Sys2Proof.Laws

/-- The encoding of a command splits into the fields its row of R72 gives it, and those fields are legal. -/
def FieldsLegal.Statement (i : Instr) : Prop :=
  splitWord (encode i) = i.fields ∧ i.fields.wellFormed = true

theorem FieldsLegal.digest : FieldsLegal.Statement .digest := by unfold FieldsLegal.Statement; decide

theorem FieldsLegal.ident : FieldsLegal.Statement .ident := by unfold FieldsLegal.Statement; decide

theorem FieldsLegal.cksum (id : BitVec 3) : FieldsLegal.Statement (.cksum id) := by
  unfold FieldsLegal.Statement
  revert id
  decide

theorem FieldsLegal.patch : FieldsLegal.Statement .patch := by unfold FieldsLegal.Statement; decide

end Sys2Proof.Laws
end

