-- ==== Sys2Proof/Tests/Slice0.lean ====
section
/-! SUPPORT. The model's own tests. Expected values come from spec/95_test_vectors.md (V-..), from the worked examples of the
rules, or from words written out bit by bit by 30_encoding.md R70. The second part holds, for each statement with hypotheses,
a witness that they can be met together. -/

namespace Sys2Proof.Tests

open Sys2Proof Sys2Proof.Machine Sys2Proof.Safety

/-! ## What the tests look at -/

/-- The state an outcome gives satisfies `p`. -/
def gives (o : Host.Outcome State Fault Refusal) (p : State → Bool) : Bool :=
  match o with
  | .next s => p s
  | _       => false

/-- The outcome is the fault `RangeUndefined`. -/
def isRangeFault (o : Host.Outcome State Fault Refusal) : Bool :=
  match o with
  | .fault .rangeUndefined => true
  | _                      => false

/-- Reset, with a buffer of `n` bytes holding `m`. -/
def withBuffer (m : Memory) (n : Word) : State := { State.reset with mem := m, len := n }

/-- The nine bytes "123456789" at offset 0 (V-C1). -/
def nineBytes : Memory :=
  [(0, 0x31), (1, 0x32), (2, 0x33), (3, 0x34), (4, 0x35), (5, 0x36), (6, 0x37), (7, 0x38), (8, 0x39)]

/-- The nine bytes and a range to digest. -/
def digestState (start n : Word) : State := { withBuffer nineBytes 9 with arg0 := start, arg1 := n }

/-- A held result pair and a header whose first field is already right (V-P1). -/
def patchState : State :=
  { withBuffer [(0x10, 0x11), (0x11, 0x11), (0x12, 0x11), (0x13, 0x11)] 0x18 with
    res0 := 0x11111111, res1 := 0x66666666, flags := 4 }

/-- Any values of the open seeds: TS of spec/95_test_vectors.md. -/
def testSeeds : Config.Params := { seedA := 1, seedB := 2, seedC := 3, seedD := 5, patchCompat := false }

/-- The working registers 0x11111111, 0x22222222, ... (V-T6, V-W1). -/
def steppedAcc : Acc :=
  { t1 := 0x11111111, t2 := 0x22222222, t3 := 0x33333333, t4 := 0x44444444, t5 := 0x55555555,
    t6 := 0x66666666, t7 := 0x77777777 }

/-! ## Well-formedness: each check refuses an ill-formed term -/

theorem test_wellFormed_refuses_nonzero_z :
    Fields.zeroZ { z := 1, id := 0, op := 1 } = false ∧
      Fields.wellFormed { z := 1, id := 0, op := 1 } = false := by decide

theorem test_wellFormed_refuses_unknown_op :
    Fields.knownOp { z := 0, id := 0, op := 5 } = false ∧
      Fields.wellFormed { z := 0, id := 0, op := 5 } = false := by decide

theorem test_wellFormed_refuses_stray_id :
    Fields.idAllowed { z := 0, id := 1, op := 2 } = false ∧
      Fields.wellFormed { z := 0, id := 1, op := 2 } = false := by decide

theorem test_wellFormed_accepts_a_cksum : Instr.wellFormed (.cksum 7) = true := by decide

/-! ## Decoding: Z (25 bits), ID (3 bits), OP (4 bits), written out -/

theorem test_decode_digest :
    decode (0b0000000000000000000000000#25 ++ 0b000#3 ++ 0b0001#4) = .command .digest := by decide

theorem test_decode_ident :
    decode (0b0000000000000000000000000#25 ++ 0b000#3 ++ 0b0010#4) = .command .ident := by decide

theorem test_decode_cksum_v6 :
    decode (0b0000000000000000000000000#25 ++ 0b110#3 ++ 0b0011#4) = .command (.cksum 6) := by decide

theorem test_decode_cksum_4_is_legal : decode 0x00000043#32 = .command (.cksum 4) := by decide

theorem test_decode_patch :
    decode (0b0000000000000000000000000#25 ++ 0b000#3 ++ 0b0100#4) = .command .patch := by decide

/-- Section 6 of spec/95_test_vectors.md: the words that are no command. -/
theorem test_decode_rejects_by_name :
    decode 0x00000000#32 = .illegal .unknownOp ∧ decode 0x0000000F#32 = .illegal .unknownOp ∧
    decode 0x00000011#32 = .illegal .strayId ∧ decode 0x00000014#32 = .illegal .strayId ∧
    decode 0x00000083#32 = .illegal .reservedBits ∧ decode 0x80000002#32 = .illegal .reservedBits := by decide

theorem test_decodeTableWord : decodeTableWord 32 0x53 = some (.cksum 5) ∧ decodeTableWord 32 0x80000001 = none := by
  decide

/-! ## Primitives -/

/-- V-R1 to V-R7. -/
theorem test_rotl32 :
    rotl32 0x80000001 0 = 0x80000001 ∧ rotl32 0x80000001 31 = 0xC0000000 ∧ rotl32 0x12345678 4 = 0x23456781 ∧
      rotl32 0x00000001 31 = 0x80000000 := by decide

/-- Step 4 as 4.1 lists it. -/
theorem test_rotatedWord :
    rotatedWord 0x00000020 = 0x00000020 ∧ rotatedWord 0xDEADBEEF = 0xDF77EF56 := by decide

/-- R6, corner cases. -/
theorem test_carry32 :
    carry32 0xFFFFFFFE 1 = false ∧ carry32 0xFFFFFFFF 1 = true ∧ ugt 0x80000000 0x7FFFFFFF = true := by decide

/-! ## DIGEST -/

/-- V-C1: the digest of "123456789". -/
theorem test_digest_check_value :
    gives (exec .digest (digestState 0 9)) (fun t => t.dgst == 0xCBF43926#32 && t.status == 0) = true := by
  decide +kernel

/-- V-C4, V-C5: a range past the end, and one whose sum would wrap. -/
theorem test_digest_out_of_range :
    isRangeFault (exec .digest (digestState 1 9)) = true ∧
      isRangeFault (exec .digest (digestState 0xFFFFFFFF 2)) = true := by decide +kernel

/-- Rows of the table in 2.1. -/
theorem test_table_entries :
    tableEntry generatedTable 0xCE = 0x7CDCEFB7#32 ∧ tableEntry generatedTable 0x7A = 0xB0D09822#32 := by
  decide +kernel

/-! ## IDENT -/

/-- V-S1: a match and its neighbour. -/
theorem test_match_neighbours :
    matchFingerprint 0x98BC2C86#32 = (.v5, true) ∧ matchFingerprint 0x98BC2C87#32 = (.v5, false) := by decide

/-- V-I8 and R103: a buffer one byte short is the undefined case. -/
theorem test_ident_short_buffer : isRangeFault (exec .ident (withBuffer [] 0xFFF)) = true := by decide +kernel

/-! ## CKSUM -/

/-- V-T9: V5, auxiliary word used, carry. -/
theorem test_iteration_v5 :
    accStep .v5 0xDEADBEEF 0xCAFEBABE steppedAcc =
      { t1 := 0x25641562, t2 := 0xB99BB998, t3 := 0xED9E8DDC, t4 := 0x44444445, t5 := 0x34CD44AB,
        t6 := 0x45142555, t7 := 0xCAFEBABE } := by decide

/-- V-T7: not V5, `t2 = d`, the else branch. -/
theorem test_iteration_equal_takes_else :
    accStep .v1 0x12345678 0 { steppedAcc with t2 := 0x12345678 } =
      { t1 := 0xF064F0E4, t2 := 0x789ABCDE, t3 := 0x2107654B, t4 := 0x44444444, t5 := 0xCD6789AB,
        t6 := 0x789ABCDE, t7 := 0x77777777 } := by decide

/-- V-W2, V-W3, V-W6. -/
theorem test_combine :
    combine .v3 steppedAcc = (0x55555555, 0x88888888) ∧ combine .v6 steppedAcc = (0xE4B17E4B, 0x5B05B05B) ∧
      combine .v6 (Acc.all 0xFFFFFFFF) = (0, 0) := by decide

/-- V-F2: image O under V1 with the TS seeds, the registers after the first two iterations. -/
theorem test_two_iterations_of_image_o :
    accAfter testSeeds [(0x1000, 0xFF), (0x1001, 0xFF), (0x1002, 0xFF), (0x1003, 0xFF), (0x1007, 1)] .v1 2 =
      { t1 := 3, t2 := 0xFFFFFFFC, t3 := 0xFFFFFFFF, t4 := 2, t5 := 2, t6 := 1, t7 := 1 } := by decide

/-- V-F5: `CKSUM 0` on a short buffer, the identity is checked first. -/
theorem test_cksum_identity_first :
    gives (exec (.cksum 0) (withBuffer [] 0x100FFF)) (fun t => t.status == 1) = true := by decide +kernel

/-- V-S6: one byte short, and `RVALID` is cleared. -/
theorem test_cksum_one_byte_short :
    gives (exec (.cksum 5) { withBuffer [] 0x100FFF with flags := 7 })
      (fun t => t.status == 2 && t.flags == 3) = true := by decide +kernel

/-! ## PATCH -/

/-- V-P1: the first field is right, the second is rewritten. -/
theorem test_patch_second_field :
    gives (exec .patch patchState) (fun t =>
      t.mem.read32 0x10 == 0x11111111 && t.mem.read32 0x14 == 0x66666666 && t.flags == 6 && t.status == 0) = true := by
  decide +kernel

/-- V-P7: `PATCH_COMPAT = 1` leaves a wrong second field. -/
theorem test_patch_quirk :
    patch { testSeeds with patchCompat := true } ((Memory.write32 [] 0x10 0x11111111).write32 0x14 0x11111111)
      0x11111111 0x66666666 =
        ((Memory.write32 [] 0x10 0x11111111).write32 0x14 0x11111111, false, false) := by decide

/-! ## The host's side -/

/-- P3: `WR CMD, 0x00000012` sets `STATUS` to 4. -/
theorem test_illegal_command :
    gives (hostAct (.write .cmd 0x12) patchState) (fun t => t.status == 4 && t.flags == 4) = true := by
  decide +kernel

/-- R27: a write to a read-only register is ignored, one to `LEN` is not. -/
theorem test_register_writes :
    gives (hostAct (.write .flags 7) patchState) (fun t => t.flags == 4) = true ∧
      gives (hostAct (.write .len 7) patchState) (fun t => t.len == 7) = true := by decide +kernel

/-- The very next step after a fetch word runs it: `PATCH` from reset is `NoResult` (V-P10). -/
theorem test_fetch_word_runs :
    gives (step (State.reset.withFetchWord 32 4)) (fun t => t.status == 3 && t.inbox.isEmpty) = true := by
  decide +kernel

/-- From reset, `WR LEN` and then `CKSUM V4`'s word: two steps of the machine (P3). -/
theorem test_two_steps_from_reset :
    gives (Sys2Proof.core.run 2 { State.reset with inbox := [.write .len 0x101000, .write .cmd 0x43] })
      (fun t => t.len == 0x101000 && t.status == 1) = true := by decide +kernel

/-! ## Witnesses: the hypotheses of each statement can be met together -/

theorem witness_PrimitivesFollowTheirTable : (1 : BitVec 5) ≠ 0 ∧ (31 : BitVec 5) ≠ 0 := by decide

/-- At the top of the offsets, and for a byte on either side. -/
theorem witness_WordWriteStoresFourBytes :
    Memory.wf [(0x10, 1)] = true ∧ 0xFFFFFFFC + 4 ≤ 2 ^ 32 ∧
      (0xFFFFFFFB < 0xFFFFFFFC ∨ 0xFFFFFFFC + 4 ≤ 0xFFFFFFFB) ∧ (4 < 0 ∨ 0 + 4 ≤ 4) := by decide

theorem witness_CanonicalBuffersAreDetermined :
    Memory.wf [(0x10, 1)] = true ∧ ∀ a, Memory.read [(0x10, 1)] a = Memory.read [(0x10, 1)] a :=
  ⟨by decide, fun _ => rfl⟩

theorem witness_DecodeAndEncodeAgree :
    Instr.wellFormed (.cksum 7) = true ∧ decode 0x00000073#32 = .command (.cksum 7) := by decide

/-- One word for each way of being illegal, at the edges of the ranges. -/
theorem witness_IllegalWordsOnlySetStatus :
    (0x00#32).extractLsb' 0 4 = 0#4 ∧ 5 ≤ ((0x05#32).extractLsb' 0 4).toNat ∧
    5 ≤ ((0x0F#32).extractLsb' 0 4).toNat ∧ (0x83#32).extractLsb' 7 25 ≠ 0#25 ∧
    ((0x11#32).extractLsb' 4 3 ≠ 0#3 ∧ (0x11#32).extractLsb' 0 4 = 1#4) ∧
    ((0x12#32).extractLsb' 4 3 ≠ 0#3 ∧ (0x12#32).extractLsb' 0 4 = 2#4) ∧
    ((0x74#32).extractLsb' 4 3 ≠ 0#3 ∧ (0x74#32).extractLsb' 0 4 = 4#4) := by decide

/-- A legal word; and an action of each other kind at the head of the list, the illegal word among them. -/
theorem witness_StepRunsTheDecodedCommand :
    (∀ a ∈ [HostAction.write .cmd 0, .write .arg1 0xFFFFFFFF, .read .flags, .poke 0xFFFFFFFF 1, .reset],
      { State.reset with inbox := [a] }.inbox = a :: []) ∧
    { State.reset with inbox := [.write .cmd 0x63] }.inbox = .write .cmd 0x63 :: [] ∧
      decode 0x63 = .command (.cksum 6) ∧ Instr.wellFormed (.cksum 6) = true := by decide

theorem witness_StepIdlesWithNoAction : State.reset.inbox = [] := rfl

/-- Both ways into the undefined case: one past the end, and one byte short. -/
theorem witness_StepFaultsExactlyOnUndefinedRange :
    isRangeFault (step ((digestState 0 10).withFetchWord 32 1)) = true ∧
      (digestState 0 10).len.toNat < (digestState 0 10).arg0.toNat + (digestState 0 10).arg1.toNat ∧
      isRangeFault (step ((withBuffer [] 0xFFF).withFetchWord 32 2)) = true ∧
      (withBuffer [] 0xFFF).len.toNat < 0x1000 := by decide +kernel

theorem witness_HostWritesReachOperandsOnly :
    Reg.status ∈ [Reg.status, Reg.dgst, Reg.idr, Reg.res0, Reg.res1, Reg.flags] ∧
      Reg.flags ∈ [Reg.status, Reg.dgst, Reg.idr, Reg.res0, Reg.res1, Reg.flags] := by decide

/-- At the last offset, and a byte beside it. -/
theorem witness_HostPokeChangesOneByte :
    BufferCanonical patchState ∧ 0xFFFFFFFE ≠ (0xFFFFFFFF#32).toNat := by decide

/-- A state with a result held and one with none. -/
theorem witness_HostReadsReturnRegisters :
    flagRvalid patchState.flags = true ∧ flagRvalid State.reset.flags = false := by decide

theorem witness_RegistersAreNumberedZeroToNine :
    regOfNumber 0 = some .cmd ∧ regOfNumber 9 = some .flags ∧ 10 ≤ 10 := by decide

/-- The range that ends exactly at the end of the buffer. -/
theorem witness_DigestIsTheBitwiseCrc :
    TableBuilt (digestState 0 9) ∧
      (digestState 0 9).arg0.toNat + (digestState 0 9).arg1.toNat ≤ (digestState 0 9).len.toNat :=
  ⟨rfl, by decide⟩

theorem witness_DigestDependsOnRangeBytesOnly :
    ∀ j, j < 1 → Memory.read [(0, 0x31)] (0 + j) = Memory.read [(5, 0x31)] (5 + j) := by decide

/-- The two sides of the edge: the empty range at the end of the buffer completes, one byte more does not. -/
theorem witness_DigestCommand :
    (digestState 9 0).arg0.toNat + (digestState 9 0).arg1.toNat ≤ (digestState 9 0).len.toNat ∧
      (digestState 9 1).len.toNat < (digestState 9 1).arg0.toNat + (digestState 9 1).arg1.toNat := by decide

theorem witness_FingerprintTable :
    (0x6170A4A0#32) ∉ [0x6170A4A1#32, 0x90BB6CB5#32, 0x0B050EE0#32, 0x98BC2C86#32, 0xACC8580A#32] := by decide

theorem witness_IdentCommand :
    0x1000 ≤ (withBuffer [] 0x1000).len.toNat ∧ (withBuffer [] 0xFFF).len.toNat < 0x1000 := by decide

/-- Two buffers that differ in a header byte only. -/
theorem witness_IdentIsAFunctionOfTheRegion :
    0x1000 ≤ (withBuffer [] 0x1000).len.toNat ∧ 0x1000 ≤ (withBuffer [(0x3F, 1)] 0x2000).len.toNat ∧
      (withBuffer [] 0x1000).tbl = (withBuffer [(0x3F, 1)] 0x2000).tbl ∧
      AgreeOn 0x40 0x1000 (withBuffer [] 0x1000).mem (withBuffer [(0x3F, 1)] 0x2000).mem := by
  refine ⟨by decide, by decide, rfl, fun a h _ => ?_⟩
  change Memory.read [] a = Memory.read [(0x3F, 1)] a
  rw [Memory.read_cons, if_neg (show ¬0x3F = a by omega)]

theorem witness_IterationFollowsItsSteps : Identity.v5 = .v5 ∧ Identity.v1 ≠ .v5 := by decide

theorem witness_ClosedForms : 0 ≤ 262144 ∧ 262144 ≤ 262144 := by decide

theorem witness_AuxiliaryRegisterContents : 0 < 262144 ∧ 262143 < 262144 ∧ Identity.v6 ≠ .v5 := by decide

theorem witness_WordAccessesStayInRegion : 0 < 262144 ∧ 262143 < 262144 := by decide

theorem witness_FinalCombination : Identity.v5 ∈ [Identity.v1, Identity.v2, Identity.v5] := by decide

/-- The shortest buffer `CKSUM` accepts. -/
theorem witness_CksumCompletes :
    (6#3, Identity.v6) ∈ [(1#3, Identity.v1), (2#3, .v2), (3#3, .v3), (5#3, .v5), (6#3, .v6)] ∧
      0x101000 ≤ (withBuffer [] 0x101000).len.toNat := by decide

/-- Each of the two errors, the second one byte below the edge. -/
theorem witness_CksumErrors :
    (if 7#3 ∈ [0#3, 4#3, 7#3] then (1#32) = 1#32 else
      (withBuffer [] 0x101000).len.toNat < 0x101000 ∧ (1#32) = 2#32) ∧
    (if 5#3 ∈ [0#3, 4#3, 7#3] then (2#32) = 1#32 else
      (withBuffer [] 0x100FFF).len.toNat < 0x101000 ∧ (2#32) = 2#32) := by decide

/-- Two buffers that differ just below and just above the regions. -/
theorem witness_CksumReadsOnlyItsRegions :
    AgreeOn 0x1000 0x101000 [] [(0x74F, 1), (0x101000, 1)] ∧
      (Identity.v5 = .v5 → AgreeOn 0x750 0x850 [] [(0x74F, 1), (0x101000, 1)]) := by
  constructor
  · intro a h h'
    rw [Memory.read_cons, if_neg (show ¬0x74F = a by omega), Memory.read_cons,
      if_neg (show ¬0x101000 = a by omega)]
  · intro _ a h h'
    rw [Memory.read_cons, if_neg (show ¬0x74F = a by omega), Memory.read_cons,
      if_neg (show ¬0x101000 = a by omega)]

theorem witness_CksumOfAllZeroBuffer : ∀ a, Memory.read [] a = 0#8 := fun _ => rfl

/-- No result held; a result held on a buffer one byte too short. -/
theorem witness_PatchErrors :
    flagRvalid State.reset.flags = false ∧ flagRvalid { patchState with len := 0x17 }.flags = true ∧
      { patchState with len := 0x17 }.len.toNat < 0x18 := by decide

/-- The shortest buffer `PATCH` accepts; a buffer with both fields right. -/
theorem witness_PatchCompletes :
    BufferCanonical patchState ∧ flagRvalid patchState.flags = true ∧ 0x18 ≤ patchState.len.toNat ∧
      patchState.res0 = patchState.mem.read32 0x10 ∧
      { patchState with res1 := 0 }.res1 = patchState.mem.read32 0x14 := by decide

theorem witness_SecondPatchWritesNothing :
    BufferCanonical patchState ∧ flagRvalid patchState.flags = true ∧ 0x18 ≤ patchState.len.toNat := by decide

/-- The two consequences (V-P6, V-P7) and the case with none. -/
theorem witness_PatchCompatConsequences :
    Memory.wf (Memory.write32 [] 0x14 0x66666666) = true ∧
      (Memory.write32 [] 0x14 0x66666666).read32 0x14 = 0x66666666 ∧ (0x11111111 : Word) ≠ 0x66666666 ∧
      (Memory.write32 [] 0x14 0x11111111).read32 0x14 = 0x11111111 ∧
      (Memory.write32 [] 0x14 0x12345678).read32 0x14 ≠ 0x11111111 := by decide

/-- A command that gives a next state, for the statements over every command. -/
theorem witness_CommandsThatComplete :
    ∃ t, exec .patch patchState = .next t ∧ flagRvalid t.flags = true := by
  rcases execPatch_eq patchState with ⟨h, -⟩ | ⟨-, h, -⟩ | ⟨-, -, h⟩
  · exact absurd h (by decide)
  · exact absurd h (by decide)
  · exact ⟨_, h, by decide⟩

/-- Words that end in an error: `PATCH` with no result held, an illegal word, and a `CKSUM` of no identity. -/
theorem witness_ErrorsHaveNoOtherEffect :
    (issue 4 State.reset = .next (raisePlain .noResult State.reset) ∧
      (raisePlain .noResult State.reset).status ≠ 0#32) ∧
    (issue 0 State.reset = .next (raisePlain .illegalCommand State.reset) ∧
      (raisePlain .illegalCommand State.reset).status ≠ 0#32) ∧
    (issue 0x73 State.reset = .next (raiseByCksum .unsupportedBootChip State.reset) ∧
      (raiseByCksum .unsupportedBootChip State.reset).status ≠ 0#32 ∧
      decode 0x73 = .command (.cksum 7)) :=
  ⟨⟨rfl, by decide⟩, ⟨rfl, by decide⟩, ⟨rfl, by decide, by decide⟩⟩

/-- A word of each kind that gives a next state: at reset, and `IDENT` on the shortest buffer it accepts. -/
theorem witness_StatusCodesByCommand :
    gives (issue 1 State.reset) (fun _ => true) = true ∧ gives (issue 3 State.reset) (fun _ => true) = true ∧
      gives (issue 4 State.reset) (fun _ => true) = true ∧ gives (issue 0 State.reset) (fun _ => true) = true ∧
      gives (issue 2 (withBuffer [] 0x1000)) (fun _ => true) = true := by
  decide +kernel

/-- A host that issues only `CKSUM` and `PATCH`. -/
theorem witness_RunsWithoutDigestsAreSafe :
    ∀ a ∈ { State.reset with inbox := [.write .cmd 0x53, .write .cmd 4, .reset] }.inbox,
      a ≠ .write .cmd 0x00000001#32 ∧ a ≠ .write .cmd 0x00000002#32 := by decide

/-- A state with a held result that meets the invariant, and a step from it. -/
theorem witness_StepKeepsInvariant :
    MachineInv patchState ∧ step patchState = .next patchState :=
  ⟨⟨by decide, rfl, by decide, by decide, by decide⟩, rfl⟩

/-- A step that keeps a held result (it idles), and a step that computes one, on the shortest buffer `CKSUM` accepts. -/
theorem witness_HeldResultIsKeptOrComputed :
    (step patchState = .next patchState ∧ flagRvalid patchState.flags = true ∧
      ∀ id rest, patchState.inbox ≠ .write .cmd (encode (.cksum id)) :: rest) ∧
    ∃ t, step ((withBuffer [] 0x101000).withFetchWord 32 0x63) = .next t ∧ flagRvalid t.flags = true ∧
      ((withBuffer [] 0x101000).withFetchWord 32 0x63).inbox = .write .cmd (encode (.cksum 6)) :: [] := by
  refine ⟨⟨rfl, by decide, fun _ _ h => by cases h⟩, ?_⟩
  rcases execCksum_eq 6 (withBuffer [] 0x101000) with ⟨h, -⟩ | ⟨_, -, h, -⟩ | ⟨idn, -, -, h⟩
  · exact absurd h (by decide)
  · exact absurd h (by decide)
  · exact ⟨afterCksum idn (withBuffer [] 0x101000), h, flagRvalid_afterCksum _ _, by decide⟩

/-- The shortest buffer a repair completes on. -/
theorem witness_Repair :
    BufferCanonical (withBuffer [(0x10, 1)] 0x101000) ∧ 0x101000 ≤ (withBuffer [(0x10, 1)] 0x101000).len.toNat := by
  decide

end Sys2Proof.Tests
end

section
/-! What each primitive of `R6` does to the numbers its operands stand for; one rule per primitive, for every proof that
counts in unbounded integers. -/

namespace Sys2Proof.Machine

@[simp] theorem toNat_add32 (a b : Word) : (add32 a b).toNat = (a.toNat + b.toNat) % 2 ^ 32 :=
  BitVec.toNat_add a b

@[simp] theorem toNat_mul32 (a b : Word) : (mul32 a b).toNat = (a.toNat * b.toNat) % 2 ^ 32 :=
  BitVec.toNat_mul a b

@[simp] theorem toNat_not32 (a : Word) : (not32 a).toNat = 0xFFFFFFFF - a.toNat :=
  BitVec.toNat_not

@[simp] theorem toNat_shr32 (a : Word) (n : Nat) : (shr32 a n).toNat = a.toNat / 2 ^ n := by
  rw [shr32, BitVec.toNat_ushiftRight, Nat.shiftRight_eq_div_pow]

@[simp] theorem ugt_iff (a b : Word) : ugt a b = true ↔ b.toNat < a.toNat :=
  decide_eq_true_iff

theorem carry32_iff (a b : Word) : carry32 a b = true ↔ 2 ^ 32 ≤ a.toNat + b.toNat :=
  decide_eq_true_iff

/-- The sum wraps at most once, since both operands are below 2^32; so it wraps exactly when it comes out smaller. -/
theorem carry32_iff_add32_lt (a b : Word) : carry32 a b = true ↔ (add32 a b).toNat < a.toNat := by
  have ha := a.isLt
  have hb := b.isLt
  rw [carry32_iff, toNat_add32]
  omega

/-- What a shift by `n` leaves of a `w`-bit value are the low `w - n` bits, shifted. -/
theorem mul_two_pow_mod_two_pow (x : Nat) {n w : Nat} (hn : n ≤ w) :
    x * 2 ^ n % 2 ^ w = x % 2 ^ (w - n) * 2 ^ n := by
  rw [← Nat.mul_mod_mul_right, ← pow_add, Nat.sub_add_cancel hn]

/-- The rotation is the bitwise or of the bits that stay and the bits that come around. The former are a multiple of
2^n and the latter are below it, so no bit is in both and the or is the sum. -/
theorem toNat_rotl32 (x : Word) (n : BitVec 5) :
    (rotl32 x n).toNat = x.toNat * 2 ^ n.toNat % 2 ^ 32 + x.toNat / 2 ^ (32 - n.toNat) := by
  have hn : n.toNat < 32 := n.isLt
  have hlow : x.toNat / 2 ^ (32 - n.toNat) < 2 ^ n.toNat := by
    rw [Nat.div_lt_iff_lt_mul (by positivity), ← pow_add, Nat.add_sub_cancel' hn.le]
    exact x.isLt
  calc (rotl32 x n).toNat
      = x.toNat * 2 ^ n.toNat % 2 ^ 32 ||| x.toNat / 2 ^ (32 - n.toNat) := by
        rw [rotl32, BitVec.toNat_rotateLeft, Nat.mod_eq_of_lt hn, Nat.shiftLeft_eq, Nat.shiftRight_eq_div_pow]
    _ = x.toNat * 2 ^ n.toNat % 2 ^ 32 + x.toNat / 2 ^ (32 - n.toNat) := by
        rw [mul_two_pow_mod_two_pow _ hn.le, ← Nat.shiftLeft_eq, Nat.shiftLeft_add_eq_or_of_lt hlow]

/-- By 0 every bit stays and none comes around. -/
@[simp] theorem rotl32_zero (x : Word) : rotl32 x 0 = x := by
  apply BitVec.eq_of_toNat_eq
  have hx := x.isLt
  have h0 : (0 : BitVec 5).toNat = 0 := rfl
  rw [toNat_rotl32, h0, pow_zero, mul_one, Nat.sub_zero, Nat.mod_eq_of_lt hx, Nat.div_eq_of_lt hx, Nat.add_zero]

/-- Settles O1: the rows of the table one by one, each by the rule of its primitive; xor, and, eq are the library's. -/
theorem primitivesFollowTheirTable : Obligations.PrimitivesFollowTheirTable :=
  ⟨toNat_add32, carry32_iff, carry32_iff_add32_lt, toNat_mul32, fun _ _ _ => BitVec.getLsbD_xor,
    fun _ _ _ => BitVec.getLsbD_and, toNat_not32, fun a => ⟨toNat_shr32 a 1, toNat_shr32 a 8⟩, rotl32_zero,
    fun x n _ => toNat_rotl32 x n, ugt_iff, fun _ _ => beq_iff_eq⟩

end Sys2Proof.Machine
end

section
/-! From a legal command word to its command and back (30_encoding.md R70, R72), for the proofs that must know which word
issued a command. -/

namespace Sys2Proof

/-- The three fields of format `C` are all of the word (R70). -/
@[simp] theorem joinFields_splitWord (w : Word) : joinFields (splitWord w) = w := by
  unfold joinFields splitWord
  ext j hj
  simp only [BitVec.getElem_append, BitVec.getElem_extractLsb']
  split_ifs with h4 h3
  · simp [BitVec.getLsbD_eq_getElem hj]
  · simp [BitVec.getLsbD_eq_getElem hj, Nat.add_sub_cancel' (Nat.le_of_not_lt h4)]
  · have hz : 7 + (j - 4 - 3) = j := by omega
    simp [hz, BitVec.getLsbD_eq_getElem hj]

/-- A word that decodes to a command holds the fields R72's table gives that command. -/
theorem splitWord_of_decode {w : Word} {i : Instr} (h : decode w = .command i) : splitWord w = i.fields := by
  generalize hf : splitWord w = f
  obtain ⟨z, id, op⟩ := f
  simp only [decode, hf] at h
  split_ifs at h with hz h1 hi h2 hi h3 h4 hi <;> cases h <;> simp_all [Instr.fields]

/-- A legal word is the encoding of the command it decodes to. -/
theorem encode_of_decode {w : Word} {i : Instr} (h : decode w = .command i) : encode i = w := by
  rw [encode, ← splitWord_of_decode h, joinFields_splitWord]

/-- Every `CKSUM` word, of an identity or not, is legal and decodes to its command. -/
@[simp] theorem decode_encode_cksum (id : BitVec 3) : decode (encode (.cksum id)) = .command (.cksum id) := by
  revert id
  decide

end Sys2Proof
end

section
/-! What the fields of `STATUS`, `IDR` and `FLAGS` can hold: the bounds behind the invariant, and what a host read shows. -/

namespace Sys2Proof.Machine

/-! ### `STATUS` -/

/-- No error has a code above 4 (R140). -/
theorem statusWord_errorCode_le (e : ErrorKind) : (statusWord (errorCode e)).toNat ≤ 4 := by
  cases e <;> decide

/-- A read of `STATUS` shows its low three bits (R34). -/
theorem toNat_statusRead (w : Word) : (statusRead w).toNat = w.toNat % 2 ^ 3 := by
  rw [statusRead, BitVec.toNat_and]
  exact Nat.and_two_pow_sub_one_eq_mod w.toNat 3

/-! ### `IDR` -/

/-- An answer of `IDENT` is a match of one of the five identities, or the default `V5` without a match (R101, R102). -/
theorem matchFingerprint_cases (fp : Word) :
    (∃ idn, matchFingerprint fp = (idn, true)) ∨ matchFingerprint fp = (.v5, false) := by
  unfold matchFingerprint
  split_ifs
  case neg => exact .inr rfl
  all_goals exact .inl ⟨_, rfl⟩

/-- A read of `IDR` shows its low four bits (R32). -/
theorem toNat_idrRead (w : Word) : (idrRead w).toNat = w.toNat % 2 ^ 4 := by
  rw [idrRead, BitVec.toNat_and]
  exact Nat.and_two_pow_sub_one_eq_mod w.toNat 4

/-! ### `FLAGS` -/

/-- The reserved bits of `FLAGS` are zero exactly when its value is below 8. -/
theorem toNat_lt_eight_iff (w : Word) : w.toNat < 8 ↔ ∀ j, 3 ≤ j → w.getLsbD j = false := by
  constructor
  · intro h j hj
    exact Nat.testBit_lt_two_pow (h.trans_le (Nat.pow_le_pow_right (i := 3) Nat.two_pos hj))
  · exact fun h => Nat.lt_pow_two_of_testBit (n := 3) _ h

theorem putRvalid_lt_eight {w : Word} (b : Bool) (h : w.toNat < 8) : (putRvalid w b).toNat < 8 := by
  rw [toNat_lt_eight_iff] at h ⊢
  intro j hj
  rw [getLsbD_putRvalid, if_neg (by omega), h j hj]

theorem putFixes_lt_eight {w : Word} (b c : Bool) (h : w.toNat < 8) : (putFixes w b c).toNat < 8 := by
  rw [toNat_lt_eight_iff] at h ⊢
  intro j hj
  rw [getLsbD_putFixes_high _ _ _ (by omega), h j hj]

/-- A read of `FLAGS` shows its low three bits (R27). -/
theorem toNat_flagsRead (w : Word) : (flagsRead w).toNat = w.toNat % 2 ^ 3 :=
  toNat_statusRead w

end Sys2Proof.Machine
end

section
/-! The host's register accesses and the state after reset (R27 to R34, R38). -/

namespace Sys2Proof.Machine

open Sys2Proof.Safety

/-- A write of a register other than `CMD` is a plain register access. -/
theorem hostAct_write {r : Reg} (v : Word) (s : State) (hr : r ≠ .cmd) :
    hostAct (.write r v) s = .next (writeReg r v s) := by
  cases r
  case cmd => exact absurd rfl hr
  all_goals rfl

/-- A write of `CMD` that carries a `CKSUM` word runs that `CKSUM` (R28). -/
theorem hostAct_write_cksum (id : BitVec 3) (s : State) :
    hostAct (.write .cmd (encode (.cksum id))) s = exec (.cksum id) s := by
  rw [hostAct, issue, decode_encode_cksum]

/-- A read is never refused and never faults. -/
theorem hostAct_read (r : Reg) (s : State) : hostAct (.read r) s = .next (readReg r s) := rfl

/-- While a result is held, `RES0` and `RES1` are read as they are (R33). -/
theorem readReg_result_held {s : State} (h : flagRvalid s.flags = true) :
    readReg .res0 s = s.giveBack s.res0 ∧ readReg .res1 s = s.giveBack s.res1 := by
  simp [readReg, h]

/-- While none is held, a read of them returns a free value (R33). -/
theorem readReg_result_open {s : State} (h : flagRvalid s.flags = false) :
    readReg .res0 s = s.giveFree ∧ readReg .res1 s = s.giveFree := by
  simp [readReg, h]

/-- No register has a number from 10 up. -/
theorem regOfNumber_eq_none {n : Nat} (h : 10 ≤ n) : regOfNumber n = none := by
  obtain ⟨k, rfl⟩ := Nat.exists_eq_add_of_le' h
  rfl

/-- A register that a number names has that number. -/
theorem regNumber_of_regOfNumber {n : Nat} {r : Reg} (h : regOfNumber n = some r) : regNumber r = n := by
  rcases Nat.lt_or_ge n 10 with hn | hn
  · interval_cases n <;> cases h <;> rfl
  · rw [regOfNumber_eq_none hn] at h
    cases h

/-- Settles O15: a write of an operand register is its field update; every register of the list ignores the value. -/
theorem hostWritesReachOperandsOnly : Obligations.HostWritesReachOperandsOnly := by
  intro s v
  refine ⟨rfl, rfl, rfl, fun r hr => ?_⟩
  rw [hostAct_write v s (by rintro rfl; simp at hr)]
  cases r <;> simp [writeReg] at hr ⊢

/-- Settles O17: the plain registers by the read's definition, `RES0` and `RES1` by the value of `RVALID`, and the
masked registers by the number their mask leaves. -/
theorem hostReadsReturnRegisters : Obligations.HostReadsReturnRegisters := by
  intro s
  refine ⟨rfl, rfl, rfl, rfl, fun h => ?_, ⟨_, rfl, toNat_statusRead _⟩, ⟨_, rfl, toNat_idrRead _⟩,
    ⟨_, rfl, toNat_flagsRead _⟩, ⟨_, _, rfl⟩, fun h => ?_⟩
  · obtain ⟨h0, h1⟩ := readReg_result_held h
    rw [hostAct_read, hostAct_read, h0, h1]
    exact ⟨rfl, rfl⟩
  · obtain ⟨h0, h1⟩ := readReg_result_open h
    rw [hostAct_read, hostAct_read, h0, h1]
    exact ⟨⟨_, _, rfl⟩, ⟨_, _, rfl⟩⟩

/-- Settles O18: the table of R27 row by row, and both directions between the registers and their numbers. -/
theorem registersAreNumberedZeroToNine : Obligations.RegistersAreNumberedZeroToNine := by
  refine ⟨rfl, rfl, rfl, rfl, rfl, rfl, rfl, rfl, rfl, rfl, fun r => ?_, fun n r => regNumber_of_regOfNumber,
    fun n => regOfNumber_eq_none⟩
  cases r <;> exact ⟨by decide, rfl⟩

/-- Settles O19: reset takes the generated table, whose entries are `tblgen`; the three registers are 0. -/
theorem resetStateAsSpecified : Obligations.ResetStateAsSpecified :=
  ⟨tableEntry_generatedTable, rfl, rfl, rfl⟩

/-- Settles O55: the empty buffer is canonical, the table is the generated one, and the registers are 0. -/
theorem resetMeetsInvariant : Obligations.ResetMeetsInvariant :=
  ⟨rfl, rfl, by decide, by decide, by decide⟩

end Sys2Proof.Machine
end

section
/-! What the commands leave alone: the operands, the table and the host's fields under every command, and each result latch
under every command but its own (R29 to R35, R91). -/

namespace Sys2Proof.Machine

open Sys2Proof.Safety

/-- The state after a `DIGEST` that found `v`. -/
def afterDigest (v : Word) (s : State) : State := ((s.setDgst v).discardCrc).setCode codeOk

/-- The state after an `IDENT` that found the fingerprint `fp`. -/
def afterIdent (fp : Word) (s : State) : State :=
  (((s.setDgst fp).setIdr (identityCode (matchFingerprint fp).1) (matchFingerprint fp).2).discardCrc).setCode codeOk

/-- The six forms of a command's next state, without the conditions each is taken under. The digest, the fingerprint and
the error stand as variables, so that a frame proved by comparing fields computes none of them. -/
theorem exec_next_forms {i : Instr} {s t : State} (h : exec i s = .next t) :
    (i = .digest ∧ ∃ v, t = afterDigest v s) ∨
    (i = .ident ∧ ∃ fp, t = afterIdent fp s) ∨
    (∃ id, i = .cksum id ∧ ∃ e, t = raiseByCksum e s) ∨
    (∃ id, i = .cksum id ∧ ∃ idn, t = afterCksum idn s) ∨
    (i = .patch ∧ ∃ e, t = raisePlain e s) ∨
    (i = .patch ∧ t = afterPatch s) := by
  rcases exec_next_cases h with ⟨hi, -, ht⟩ | ⟨hi, -, ht⟩ | ⟨id, hi, -, ht⟩ | ⟨id, _, hi, -, -, ht⟩ |
    ⟨id, idn, hi, -, -, ht⟩ | ⟨hi, -, ht⟩ | ⟨hi, -, -, ht⟩ | ⟨hi, -, -, ht⟩
  · exact .inl ⟨hi, _, ht⟩
  · exact .inr (.inl ⟨hi, _, ht⟩)
  · exact .inr (.inr (.inl ⟨id, hi, _, ht⟩))
  · exact .inr (.inr (.inl ⟨id, hi, _, ht⟩))
  · exact .inr (.inr (.inr (.inl ⟨id, hi, idn, ht⟩)))
  · exact .inr (.inr (.inr (.inr (.inl ⟨hi, _, ht⟩))))
  · exact .inr (.inr (.inr (.inr (.inl ⟨hi, _, ht⟩))))
  · exact .inr (.inr (.inr (.inr (.inr ⟨hi, ht⟩))))

/-- Settles O49: none of the six forms updates one of these fields. -/
theorem commandsKeepOperandsAndTable : Obligations.CommandsKeepOperandsAndTable := by
  intro i s t h
  rcases exec_next_forms h with ⟨-, v, rfl⟩ | ⟨-, fp, rfl⟩ | ⟨_, -, e, rfl⟩ | ⟨_, -, idn, rfl⟩ | ⟨-, e, rfl⟩ | ⟨-, rfl⟩
  all_goals exact ⟨⟨rfl, rfl, rfl⟩, rfl, rfl, rfl⟩

/-- Settles O50: in each form, the latches that are not the command's own are as they were. -/
theorem latchesHaveTheirWriters : Obligations.LatchesHaveTheirWriters := by
  intro i s t h
  rcases exec_next_forms h with ⟨rfl, v, rfl⟩ | ⟨rfl, fp, rfl⟩ | ⟨id, rfl, e, rfl⟩ | ⟨id, rfl, idn, rfl⟩ |
    ⟨rfl, e, rfl⟩ | ⟨rfl, rfl⟩
  · simp [afterDigest]
  · simp [afterIdent]
  · simp [raiseByCksum_eq]
  · simp [afterCksum]
  · simp [raisePlain_eq]
  · simp [afterPatch]

end Sys2Proof.Machine
end

section
/-! Where a held result comes from (R33, R119, R143): a `CKSUM` that completes holds one, and nothing else but such a `CKSUM`
changes the pair while one is held. -/

namespace Sys2Proof.Machine

open Sys2Proof.Safety

/-- A command that is no `CKSUM` keeps the pair and `RVALID`. -/
theorem exec_keeps_result {i : Instr} {s t : State} (h : exec i s = .next t) (hi : ∀ id, i ≠ .cksum id) :
    SameResult s t ∧ flagRvalid t.flags = flagRvalid s.flags := by
  obtain ⟨-, -, hwriter, -⟩ := latchesHaveTheirWriters i s t h
  have hsame := mt hwriter (fun ⟨id, hid⟩ => hi id hid)
  simpa [SameResult, and_assoc] using hsame

/-- A `CKSUM` that leaves `RVALID` 1 completed: its two errors leave it 0. -/
theorem exec_cksum_held {id : BitVec 3} {s t : State} (h : exec (.cksum id) s = .next t)
    (hv : flagRvalid t.flags = true) :
    ∃ idn, identityOfCode id = some idn ∧ Config.minLen ≤ s.len.toNat ∧ t = afterCksum idn s := by
  rcases execCksum_eq id s with ⟨-, he⟩ | ⟨_, -, -, he⟩ | ⟨idn, hid, hlen, he⟩ <;> rw [exec, he] at h <;> cases h
  · simp [raiseByCksum_eq] at hv
  · simp [raiseByCksum_eq] at hv
  · exact ⟨idn, hid, hlen, rfl⟩

/-- A `CKSUM` that completes leaves `STATUS` 0. -/
@[simp] theorem afterCksum_status (idn : Identity) (s : State) : (afterCksum idn s).status = 0#32 := rfl

/-- The codes of the five identities, as R71 lists them. -/
theorem identityOfCode_mem {id : BitVec 3} {idn : Identity} (h : identityOfCode id = some idn) :
    (id, idn) ∈ [(1#3, Identity.v1), (2#3, .v2), (3#3, .v3), (5#3, .v5), (6#3, .v6)] := by
  revert id idn
  decide

/-- Settles O53: every command but `CKSUM` keeps `RVALID`, and a `CKSUM` that leaves it 1 completed. -/
theorem rvalidComesFromCksum : Obligations.RvalidComesFromCksum := by
  intro i s t h hv
  by_cases hi : ∃ id, i = .cksum id
  · obtain ⟨id, rfl⟩ := hi
    obtain ⟨idn, -, -, rfl⟩ := exec_cksum_held h hv
    exact .inr ⟨id, rfl, afterCksum_status idn s⟩
  · have hno := not_exists.1 hi
    obtain ⟨-, hrvalid⟩ := exec_keeps_result h hno
    exact .inl ⟨hrvalid ▸ hv, hno⟩

/-- A host action that issues no `CKSUM` word and leaves a result held found that same result held. -/
theorem hostAct_keeps_held_result {a : HostAction} {s t : State} (h : hostAct a s = .next t)
    (hv : flagRvalid t.flags = true) (ha : ∀ id, a ≠ .write .cmd (encode (.cksum id))) :
    flagRvalid s.flags = true ∧ SameResult s t := by
  rcases hostAct_next_cases h with ⟨w, i, rfl, hd, he⟩ | ⟨_, _, -, -, rfl⟩ | ⟨r, v, -, -, rfl⟩ | ⟨r, -, rfl⟩ |
    ⟨_, _, -, rfl⟩ | ⟨-, rfl⟩
  · obtain ⟨hsame, hrvalid⟩ :=
      exec_keeps_result he (by rintro id rfl; exact ha id (by rw [encode_of_decode hd]))
    exact ⟨hrvalid ▸ hv, hsame⟩
  · exact ⟨hv, rfl, rfl⟩
  · rcases writeReg_cases r v s with hw | hw | hw | hw <;> rw [hw] at hv ⊢ <;> exact ⟨hv, rfl, rfl⟩
  · rcases readReg_cases r s with ⟨v, hr⟩ | hr <;> rw [hr] at hv ⊢ <;> exact ⟨hv, rfl, rfl⟩
  · exact ⟨hv, rfl, rfl⟩
  · exact absurd hv (by decide : ¬flagRvalid State.reset.flags = true)

/-- Settles O56: the step idles, or its action issues a `CKSUM` word, which then completed, or it issues none. -/
theorem heldResultIsKeptOrComputed : Obligations.HeldResultIsKeptOrComputed := by
  refine ⟨by decide, fun s t hstep hv => ?_⟩
  rcases step_cases s with ⟨hin, hidle⟩ | ⟨a, rest, hin, hact⟩
  · cases hidle.symm.trans hstep
    exact .inl ⟨by simp [hin], hv, rfl, rfl⟩
  · rw [hact] at hstep
    by_cases ha : ∃ id, a = .write .cmd (encode (.cksum id))
    · obtain ⟨id, rfl⟩ := ha
      rw [hostAct_write_cksum] at hstep
      obtain ⟨idn, hid, hlen, rfl⟩ := exec_cksum_held hstep hv
      exact .inr ⟨id, idn, rest, hin, identityOfCode_mem hid, hlen, afterCksum_status _ _, afterCksum_result _ _⟩
    · have hno := not_exists.1 ha
      obtain ⟨hheld, hsame⟩ := hostAct_keeps_held_result hstep hv hno
      refine .inl ⟨fun id rest' heq => hno id ?_, hheld, hsame⟩
      exact (List.cons.inj (hin.symm.trans heq)).1

end Sys2Proof.Machine
end

section
/-! The invariant of the machine is kept by every command, by every host action and so by every step (R32, R34, R91, R140). -/

namespace Sys2Proof.Machine

open Sys2Proof.Safety

/-- `STATUS` after a command that completes. -/
theorem statusWord_codeOk_le : (statusWord codeOk).toNat ≤ 4 := by decide

/-- Whatever `IDENT` answers is one of the legal values of `IDR`: a match of an identity, or the default. -/
theorem idrWord_matchFingerprint_legal (fp : Word) :
    idrWord (identityCode (matchFingerprint fp).1) (matchFingerprint fp).2 ∈
      [0x0#32, 0x5#32, 0x9#32, 0xA#32, 0xB#32, 0xD#32, 0xE#32] := by
  rcases matchFingerprint_cases fp with ⟨idn, h⟩ | h <;> rw [h]
  · cases idn <;> decide
  · decide

/-- Every command that gives a next state keeps the invariant. -/
theorem exec_keeps_inv {i : Instr} {s t : State} (hinv : MachineInv s) (h : exec i s = .next t) : MachineInv t := by
  obtain ⟨hmem, htbl, -, hidr, hflags⟩ := hinv
  rcases exec_next_forms h with ⟨-, v, rfl⟩ | ⟨-, fp, rfl⟩ | ⟨_, -, e, rfl⟩ | ⟨_, -, idn, rfl⟩ | ⟨-, e, rfl⟩ | ⟨-, rfl⟩
  · exact ⟨hmem, htbl, statusWord_codeOk_le, hidr, hflags⟩
  · exact ⟨hmem, htbl, statusWord_codeOk_le, idrWord_matchFingerprint_legal fp, hflags⟩
  · exact ⟨hmem, htbl, statusWord_errorCode_le e, hidr, putRvalid_lt_eight false hflags⟩
  · exact ⟨hmem, htbl, statusWord_codeOk_le, hidr, putRvalid_lt_eight true hflags⟩
  · exact ⟨hmem, htbl, statusWord_errorCode_le e, hidr, hflags⟩
  · exact ⟨patch_wf _ _ _ hmem, htbl, statusWord_codeOk_le, hidr, putFixes_lt_eight _ _ hflags⟩

/-- Every host action that gives a next state keeps the invariant. -/
theorem hostAct_keeps_inv {a : HostAction} {s t : State} (hinv : MachineInv s) (h : hostAct a s = .next t) :
    MachineInv t := by
  have ⟨hmem, htbl, hstatus, hidr, hflags⟩ := hinv
  rcases hostAct_next_cases h with ⟨_, _, -, -, he⟩ | ⟨_, _, -, -, rfl⟩ | ⟨r, v, -, -, rfl⟩ | ⟨r, -, rfl⟩ |
    ⟨x, b, -, rfl⟩ | ⟨-, rfl⟩
  · exact exec_keeps_inv hinv he
  · exact ⟨hmem, htbl, statusWord_errorCode_le _, hidr, hflags⟩
  · rcases writeReg_cases r v s with hw | hw | hw | hw <;> rw [hw] <;> exact hinv
  · rcases readReg_cases r s with ⟨v, hr⟩ | hr <;> rw [hr] <;> exact hinv
  · exact ⟨Memory.wf_write _ b hmem x.isLt, htbl, hstatus, hidr, hflags⟩
  · obtain ⟨-, htbl', hstatus', hidr', hflags'⟩ := resetMeetsInvariant
    exact ⟨hmem, htbl', hstatus', hidr', hflags'⟩

/-- Settles O54: a step idles or takes a host action, and the host's list is no part of the invariant. -/
theorem stepKeepsInvariant : Obligations.StepKeepsInvariant := by
  intro s t hinv hstep
  rcases step_cases s with ⟨-, hidle⟩ | ⟨a, rest, -, hact⟩
  · cases hidle.symm.trans hstep
    exact hinv
  · exact hostAct_keeps_inv (s := s.setInbox rest) hinv (hact.symm.trans hstep)

end Sys2Proof.Machine
end

section
/-! The running exclusive or and the running rotated sum of the accumulator, by induction on the number of iterations
(R21, R114). -/

namespace Sys2Proof.Machine

open Sys2Proof.Safety

/-- The word iteration `k` reads is word number `k` of the region: the loop offset does not wrap below the last
iteration (R112). -/
theorem read32_wordAddr_loopOffset (m : Memory) {k : Nat} (hk : k < 262144) :
    m.read32 (wordAddr (loopOffset k)) = regionWord m k := by
  have hoff : (loopOffset k).toNat = 4 * k := by
    rw [loopOffset, BitVec.toNat_ofNat, Nat.mod_eq_of_lt (by omega)]
  rw [wordAddr, hoff]
  rfl

/-- Iteration `k` folds word number `k` into `t3` (R114). -/
theorem accAfter_succ_t3 (p : Config.Params) (m : Memory) (idn : Identity) {k : Nat} (hk : k < 262144) :
    (accAfter p m idn (k + 1)).t3 = (accAfter p m idn k).t3 ^^^ regionWord m k := by
  rw [accAfter, iterate, accStep_t3, read32_wordAddr_loopOffset m hk]

/-- Iteration `k` adds word number `k`, rotated, to `t5` (R114, R115). -/
theorem accAfter_succ_t5 (p : Config.Params) (m : Memory) (idn : Identity) {k : Nat} (hk : k < 262144) :
    (accAfter p m idn (k + 1)).t5 = add32 (accAfter p m idn k).t5 (rotatedWord (regionWord m k)) := by
  rw [accAfter, iterate, accStep_t5, read32_wordAddr_loopOffset m hk]

theorem accAfter_t3 (p : Config.Params) (m : Memory) (idn : Identity) {k : Nat} (hk : k ≤ 262144) :
    (accAfter p m idn k).t3 = seed p idn ^^^ wordXor m k := by
  induction k with
  | zero => exact (BitVec.xor_zero).symm
  | succ k ih => rw [accAfter_succ_t3 p m idn hk, ih (by omega), wordXor, BitVec.xor_assoc]

theorem toNat_accAfter_t5 (p : Config.Params) (m : Memory) (idn : Identity) {k : Nat} (hk : k ≤ 262144) :
    (accAfter p m idn k).t5.toNat = ((seed p idn).toNat + rotatedSum m k) % 2 ^ 32 := by
  induction k with
  | zero => exact (Nat.mod_eq_of_lt (seed p idn).isLt).symm
  | succ k ih =>
    rw [accAfter_succ_t5 p m idn hk, toNat_add32, ih (by omega), rotatedSum, Nat.mod_add_mod, Nat.add_assoc]

/-- Settles O32: the two closed forms, each by induction on the number of iterations. -/
theorem xorAndRotatedSumClosedForm : Obligations.XorAndRotatedSumClosedForm :=
  fun p m idn _ hk => ⟨accAfter_t3 p m idn hk, toNat_accAfter_t5 p m idn hk⟩

end Sys2Proof.Machine
end

section
/-! Words of the image buffer as four bytes, most significant first (R51 to R53): what a word read is as a number, and what a
word write leaves to be read. -/

namespace Sys2Proof.Machine

/-- A byte put after a value counts its units: the bytes before it are 256 times as much. -/
theorem toNat_append_byte {n : Nat} (v : BitVec n) (b : Byte) : (v ++ b).toNat = v.toNat * 2 ^ 8 + b.toNat := by
  rw [BitVec.toNat_append, ← Nat.shiftLeft_add_eq_or_of_lt b.isLt, Nat.shiftLeft_eq]

/-- The four bytes of a word, most significant first, are the word. -/
theorem append_bytes (v : Word) :
    v.extractLsb' 24 8 ++ v.extractLsb' 16 8 ++ v.extractLsb' 8 8 ++ v.extractLsb' 0 8 = v := by
  iterate 3 rw [BitVec.extractLsb'_append_extractLsb'_eq_extractLsb' (by rfl)]
  exact BitVec.extractLsb'_eq_self

/-- Settles O2: byte after byte, each put behind the ones at the lower offsets. -/
theorem wordReadIsBigEndian : Obligations.WordReadIsBigEndian := by
  intro m a
  simp only [Memory.read32, toNat_append_byte]
  ring

/-- A word write leaves the four bytes of the word at its offsets, most significant first (R52). -/
theorem Memory.read_write32_bytes {m : Memory} {a : Nat} (v : Word) (h : m.wf = true) (ha : a + 4 ≤ 2 ^ 32) :
    (m.write32 a v).read a = v.extractLsb' 24 8 ∧ (m.write32 a v).read (a + 1) = v.extractLsb' 16 8 ∧
      (m.write32 a v).read (a + 2) = v.extractLsb' 8 8 ∧ (m.write32 a v).read (a + 3) = v.extractLsb' 0 8 := by
  have h0 := Memory.wf_write a (v.extractLsb' 24 8) h (by omega)
  have h1 := Memory.wf_write (a + 1) (v.extractLsb' 16 8) h0 (by omega)
  have h2 := Memory.wf_write (a + 2) (v.extractLsb' 8 8) h1 (by omega)
  unfold Memory.write32
  refine ⟨?_, ?_, ?_, Memory.read_write_same _ _ h2⟩
  · iterate 3 rw [Memory.read_write_other _ _ (by omega)]
    exact Memory.read_write_same _ _ h
  · iterate 2 rw [Memory.read_write_other _ _ (by omega)]
    exact Memory.read_write_same _ _ h0
  · rw [Memory.read_write_other _ _ (by omega)]
    exact Memory.read_write_same _ _ h1

/-- A word read where a word was written gives the word. -/
theorem Memory.read32_write32_same {m : Memory} {a : Nat} (v : Word) (h : m.wf = true) (ha : a + 4 ≤ 2 ^ 32) :
    (m.write32 a v).read32 a = v := by
  obtain ⟨h0, h1, h2, h3⟩ := Memory.read_write32_bytes v h ha
  rw [Memory.read32, h0, h1, h2, h3, append_bytes]

/-- Settles O3: the four bytes, the word they make, and every byte outside them. -/
theorem wordWriteStoresFourBytes : Obligations.WordWriteStoresFourBytes := by
  intro m a v h ha
  obtain ⟨h0, h1, h2, h3⟩ := Memory.read_write32_bytes v h ha
  exact ⟨h0, h1, h2, h3, Memory.read32_write32_same v h ha, fun _ hb => Memory.read_write32_other m v hb⟩

/-- Settles O16: a host change of a byte is one byte write, and every host offset has 32 bits. -/
theorem hostPokeChangesOneByte : Obligations.HostPokeChangesOneByte := by
  intro s a b h
  exact ⟨s.mem.write a.toNat b, rfl, Memory.wf_write _ b h a.isLt, Memory.read_write_same _ b h,
    fun x hx => Memory.read_write_other s.mem b hx⟩

end Sys2Proof.Machine
end

section
/-! A canonical buffer is determined by what it reads (R50): its first entry lies at the lowest offset that reads as anything
but an unlisted byte. -/

namespace Sys2Proof.Machine

@[simp] theorem Memory.read_cons_self (c : Host.Cell) (rest : Memory) : Memory.read (c :: rest) c.1 = c.2 :=
  if_pos rfl

/-- An offset at which a canonical buffer reads a listed byte lies where its entries begin or above. -/
theorem Memory.le_of_read_ne {lo a : Nat} {m : Memory} (h : Memory.wfFrom lo m = true)
    (ha : m.read a ≠ unlistedByte) : lo ≤ a :=
  Nat.le_of_not_lt fun hlt => ha (Memory.read_below h hlt)

/-- A canonical buffer begins at or below the first entry of a canonical buffer that reads the same. -/
theorem Memory.head_le_of_read_eq {lo lo' : Nat} {c c' : Host.Cell} {rest rest' : Memory}
    (h : Memory.wfFrom lo (c :: rest) = true) (h' : Memory.wfFrom lo' (c' :: rest') = true)
    (hread : Memory.read (c :: rest) c'.1 = Memory.read (c' :: rest') c'.1) : c.1 ≤ c'.1 := by
  obtain ⟨-, hlt, hne, hrest⟩ := Memory.wfFrom_cons.1 h
  obtain ⟨-, -, hne', -⟩ := Memory.wfFrom_cons.1 h'
  refine Memory.le_of_read_ne (Memory.wfFrom_cons.2 ⟨le_rfl, hlt, hne, hrest⟩) ?_
  rwa [hread, Memory.read_cons_self]

/-- The rest of a canonical buffer reads as the whole does above the first entry, and as unlisted up to it. -/
theorem Memory.read_tail {lo : Nat} {c : Host.Cell} {rest : Memory} (h : Memory.wfFrom lo (c :: rest) = true)
    (a : Nat) : Memory.read rest a = if a ≤ c.1 then unlistedByte else Memory.read (c :: rest) a := by
  obtain ⟨-, -, -, hrest⟩ := Memory.wfFrom_cons.1 h
  split_ifs with ha
  · exact Memory.read_below hrest (by omega)
  · rw [Memory.read_cons, if_neg (by omega)]

/-- Canonical buffers that read alike are equal: they begin at the same offset with the same byte, and what is left of
them reads alike again. -/
theorem Memory.eq_of_read_eq {lo lo' : Nat} {m m' : Memory} (h : Memory.wfFrom lo m = true)
    (h' : Memory.wfFrom lo' m' = true) (hread : ∀ a, m.read a = m'.read a) : m = m' := by
  induction m generalizing m' lo lo' with
  | nil =>
    cases m' with
    | nil => rfl
    | cons c' rest' =>
      obtain ⟨-, -, hne', -⟩ := Memory.wfFrom_cons.1 h'
      exact absurd (hread c'.1).symm (by rwa [Memory.read_cons_self])
  | cons c rest ih =>
    obtain ⟨-, -, hne, hrest⟩ := Memory.wfFrom_cons.1 h
    cases m' with
    | nil => exact absurd (hread c.1) (by rwa [Memory.read_cons_self])
    | cons c' rest' =>
      obtain ⟨-, -, -, hrest'⟩ := Memory.wfFrom_cons.1 h'
      have hoff : c.1 = c'.1 := le_antisymm (Memory.head_le_of_read_eq h h' (hread c'.1))
        (Memory.head_le_of_read_eq h' h (hread c.1).symm)
      have hbyte : c.2 = c'.2 := by
        rw [← Memory.read_cons_self c rest, hread, hoff, Memory.read_cons_self]
      have htail : ∀ a, Memory.read rest a = Memory.read rest' a := fun a => by
        rw [Memory.read_tail h, Memory.read_tail h', hoff, hread]
      rw [Prod.ext hoff hbyte, ih hrest hrest' htail]

/-- Settles O4: the canonical form is the one that begins at offset 0. -/
theorem canonicalBuffersAreDetermined : Obligations.CanonicalBuffersAreDetermined :=
  fun _ _ h h' hread => Memory.eq_of_read_eq h h' hread

end Sys2Proof.Machine
end

section
/-! Where the accumulator reads (R54, R57 (c), R112, R117). -/

namespace Sys2Proof.Machine

/-- The loop offset does not wrap below the last iteration (R22). -/
theorem toNat_loopOffset {k : Nat} (hk : k < 262144) : (loopOffset k).toNat = 4 * k := by
  rw [loopOffset, BitVec.toNat_ofNat, Nat.mod_eq_of_lt (by omega)]

theorem wordAddr_loopOffset {k : Nat} (hk : k < 262144) : wordAddr (loopOffset k) = 0x1000 + 4 * k := by
  rw [wordAddr, toNat_loopOffset hk]
  rfl

/-- The mask keeps the low eight bits of the loop offset, so the auxiliary window of 256 bytes comes round (R117). -/
theorem auxAddr_loopOffset {k : Nat} (hk : k < 262144) : auxAddr (loopOffset k) = 0x750 + 4 * k % 0x100 := by
  rw [auxAddr, BitVec.toNat_and, toNat_loopOffset hk]
  exact congrArg (0x750 + ·) (Nat.and_two_pow_sub_one_eq_mod (4 * k) 8)

/-- Settles O34: both addresses are a base that is a multiple of 4 and a multiple of 4 below the length of the region. -/
theorem wordAccessesStayInRegion : Obligations.WordAccessesStayInRegion := by
  intro k hk
  rw [wordAddr_loopOffset hk, auxAddr_loopOffset hk]
  omega

end Sys2Proof.Machine
end

section
/-! What the digest and the checksum read: each is a function of the bytes of its region (R96, R120), and `PATCH` writes outside
both (R57 (a), R135). -/

namespace Sys2Proof.Machine

open Sys2Proof.Safety

/-- The digest reads the bytes of its range and nothing else, not even where the range starts (R96). -/
theorem digestRun_congr (tbl : Vector Word 256) {m m' : Memory} {start start' n : Nat}
    (h : ∀ j, j < n → m.read (start + j) = m'.read (start' + j)) :
    digestRun tbl m start n = digestRun tbl m' start' n := by
  induction n with
  | zero => rfl
  | succ n ih => rw [digestRun, digestRun, ih fun j hj => h j (by omega), h n (by omega)]

theorem digest_congr (tbl : Vector Word 256) {m m' : Memory} {start start' n : Nat}
    (h : ∀ j, j < n → m.read (start + j) = m'.read (start' + j)) :
    digest tbl m start n = digest tbl m' start' n := by
  rw [digest, digest, digestRun_congr tbl h]

/-- Under every identity but V5 an iteration does not use the auxiliary word (R117). -/
theorem accStep_aux_unused {idn : Identity} (hidn : idn ≠ .v5) (d aux aux' : Word) (a : Acc) :
    accStep idn d aux a = accStep idn d aux' a := by
  simp only [accStep, accVariant, if_neg hidn]

section
variable {idn : Identity} {m m' : Memory} (hword : AgreeOn 0x1000 0x101000 m m')
  (haux : idn = .v5 → AgreeOn 0x750 0x850 m m')
include hword haux

/-- An iteration reads its word in the checksum region and, under V5 alone, its auxiliary word in the window (R120). -/
theorem iterate_congr {k : Nat} (hk : k < 262144) (a : Acc) :
    iterate m idn (loopOffset k) a = iterate m' idn (loopOffset k) a := by
  have hd : m.read32 (wordAddr (loopOffset k)) = m'.read32 (wordAddr (loopOffset k)) := by
    rw [wordAddr_loopOffset hk]
    exact Memory.read32_congr fun j hj => hword _ (by omega) (by omega)
  rw [iterate, iterate, hd]
  by_cases hidn : idn = .v5
  · have hx : m.read32 (auxAddr (loopOffset k)) = m'.read32 (auxAddr (loopOffset k)) := by
      rw [auxAddr_loopOffset hk]
      exact Memory.read32_congr fun j hj => haux hidn _ (by omega) (by omega)
    rw [hx]
  · exact accStep_aux_unused hidn _ _ _ _

theorem accAfter_congr (p : Config.Params) {k : Nat} (hk : k ≤ 262144) :
    accAfter p m idn k = accAfter p m' idn k := by
  induction k with
  | zero => rfl
  | succ k ih => rw [accAfter, accAfter, ih (by omega), iterate_congr hword haux hk]

/-- The checksum depends on the bytes of its region and, under V5 alone, of the auxiliary window (R120). -/
theorem computeChecksum_congr (p : Config.Params) : computeChecksum p m idn = computeChecksum p m' idn := by
  have hwords : Config.ckWords ≤ 262144 := by decide
  rw [computeChecksum, computeChecksum, accAfter_congr hword haux p hwords]

end

/-- However `PATCH` ends, it has written no byte outside the two header fields (R135). -/
theorem exec_patch_read_other {s t : State} (h : exec .patch s = .next t) {a : Nat} (ha : a < 0x10 ∨ 0x18 ≤ a) :
    t.mem.read a = s.mem.read a := by
  rcases execPatch_eq s with ⟨-, he⟩ | ⟨-, -, he⟩ | ⟨-, -, he⟩ <;> rw [exec, he] at h <;> cases h
  · rfl
  · rfl
  · exact patch_read_other Config.params s.mem s.res0 s.res1 ha

/-- Settles O46: the header fields lie below every byte that the fingerprint and the checksum read. -/
theorem patchKeepsIdentAndCksum : Obligations.PatchKeepsIdentAndCksum := by
  intro s t h
  obtain ⟨-, htbl, -⟩ := commandsKeepOperandsAndTable .patch s t h
  have hread : ∀ a, 0x18 ≤ a → t.mem.read a = s.mem.read a := fun a ha => exec_patch_read_other h (.inr ha)
  refine ⟨?_, fun p idn => ?_⟩
  · rw [htbl]
    exact digest_congr s.tbl fun j _ => hread _ (by omega)
  · exact computeChecksum_congr (fun a ha _ => hread a (by omega)) (fun _ a ha _ => hread a (by omega)) p

end Sys2Proof.Machine
end

section
/-! The decoder against the opcode map (30_encoding.md R70 to R75): `decode` and `encode` are inverse to each other, so the rows
of R72 are read off the words of the commands, and the legal fields are exactly those that a row gives. -/

namespace Sys2Proof

/-- The word of every command decodes to that command (R72, R75). -/
@[simp] theorem decode_encode (i : Instr) : decode (encode i) = .command i := by
  cases i with
  | digest => decide
  | ident => decide
  | cksum id => exact decode_encode_cksum id
  | patch => decide

/-- A command has one word. -/
theorem decode_eq_command_iff {w : Word} {i : Instr} : decode w = .command i ↔ w = encode i :=
  ⟨fun h => (encode_of_decode h).symm, fun h => h ▸ decode_encode i⟩

/-- Settles O5: the first half command by command, the second by joining the fields of the word again. -/
theorem decodeAndEncodeAgree : Obligations.DecodeAndEncodeAgree :=
  ⟨fun i _ => decode_encode i, fun _ _ h => encode_of_decode h⟩

/-! ### Legal and illegal fields (R73) -/

/-- The legal fields are those that a row of R72's table gives. -/
theorem wellFormed_iff_exists_fields (f : Fields) : f.wellFormed = true ↔ ∃ i : Instr, i.fields = f := by
  constructor
  · obtain ⟨z, id, op⟩ := f
    simp only [Fields.wellFormed, Fields.zeroZ, Fields.knownOp, Fields.idAllowed, Bool.and_eq_true, Bool.or_eq_true,
      beq_iff_eq]
    rintro ⟨⟨rfl, ((rfl | rfl) | rfl) | rfl⟩, hid⟩
    · exact ⟨.digest, by simp_all [Instr.fields]⟩
    · exact ⟨.ident, by simp_all [Instr.fields]⟩
    · exact ⟨.cksum id, rfl⟩
    · exact ⟨.patch, by simp_all [Instr.fields]⟩
  · rintro ⟨i, rfl⟩
    cases i <;> rfl

/-- A word decodes to a command exactly when its fields are legal. -/
theorem exists_command_iff_wellFormed (w : Word) :
    (∃ i, decode w = .command i) ↔ (splitWord w).wellFormed = true := by
  rw [wellFormed_iff_exists_fields]
  refine exists_congr fun i => ⟨fun h => (splitWord_of_decode h).symm, fun h => ?_⟩
  rw [decode_eq_command_iff, encode, h, joinFields_splitWord]

/-- A word is illegal exactly when its fields are not legal. -/
theorem exists_illegal_iff_not_wellFormed (w : Word) :
    (∃ why, decode w = .illegal why) ↔ (splitWord w).wellFormed = false := by
  rw [← Bool.not_eq_true, ← exists_command_iff_wellFormed]
  cases decode w <;> simp

/-- The three ways of R73. An `OP` other than that of `CKSUM` is of no row, or of a row whose `ID` must be 0. -/
theorem wellFormed_eq_false_iff (f : Fields) :
    f.wellFormed = false ↔
      f.op = 0#4 ∨ 5 ≤ f.op.toNat ∨ f.z ≠ 0#25 ∨ (f.id ≠ 0#3 ∧ (f.op = 1#4 ∨ f.op = 2#4 ∨ f.op = 4#4)) := by
  have hknown : f.knownOp = false ↔ f.op = 0#4 ∨ 5 ≤ f.op.toNat := by
    unfold Fields.knownOp
    generalize f.op = op
    revert op
    decide
  have hcksum : f.op ≠ 3#4 ↔ f.knownOp = false ∨ f.op = 1#4 ∨ f.op = 2#4 ∨ f.op = 4#4 := by
    unfold Fields.knownOp
    generalize f.op = op
    revert op
    decide
  have hsplit : f.wellFormed = false ↔ (f.z ≠ 0#25 ∨ f.knownOp = false) ∨ (f.op ≠ 3#4 ∧ f.id ≠ 0#3) := by
    simp only [Fields.wellFormed, Fields.zeroZ, Fields.idAllowed, Bool.and_eq_false_iff, Bool.or_eq_false_iff,
      beq_eq_false_iff_ne]
    rfl
  rw [hsplit, hcksum, hknown]
  grind

/-! ### The rows of R72 -/

/-- The mask of the rows without an operand keeps the whole word. -/
theorem and_fullMask (w : Word) : w &&& 0xFFFFFFFF#32 = w :=
  BitVec.and_allOnes

/-- The mask of the `CKSUM` row keeps `Z` and `OP`. -/
theorem splitWord_and_cksumMask (w : Word) :
    splitWord (w &&& 0xFFFFFF8F#32) = { splitWord w with id := 0 } := by
  have hz : (0xFFFFFF8F#32).extractLsb' 7 25 = BitVec.allOnes 25 := by decide
  have hid : (0xFFFFFF8F#32).extractLsb' 4 3 = 0#3 := by decide
  have hop : (0xFFFFFF8F#32).extractLsb' 0 4 = BitVec.allOnes 4 := by decide
  simp only [splitWord, BitVec.extractLsb'_and, hz, hid, hop, BitVec.and_allOnes, BitVec.and_zero]
  rfl

/-- A word is the `CKSUM` of `id` exactly when it matches the row and its `ID` field is `id` (R72). -/
theorem eq_encode_cksum_iff {w : Word} {id : BitVec 3} :
    w = encode (.cksum id) ↔ w &&& 0xFFFFFF8F#32 = 0x00000003#32 ∧ id = w.extractLsb' 4 3 := by
  constructor
  · rintro rfl
    revert id
    decide
  · rintro ⟨hmatch, rfl⟩
    have hrow : { splitWord w with id := 0 } = splitWord 0x00000003#32 := by
      rw [← hmatch, splitWord_and_cksumMask]
    obtain ⟨hz, -, hop⟩ := Fields.mk.inj hrow
    have hfields : splitWord w = (Instr.cksum (w.extractLsb' 4 3)).fields := Fields.mk.injEq .. ▸ ⟨hz, rfl, hop⟩
    rw [encode, ← hfields, joinFields_splitWord]

/-- The legal words are the eleven of the map: three without an operand, and eight of `CKSUM` (R72). -/
theorem exists_command_iff_mem (w : Word) :
    (∃ i, decode w = .command i) ↔
      w ∈ [0x01#32, 0x02#32, 0x04#32, 0x03#32, 0x13#32, 0x23#32, 0x33#32, 0x43#32, 0x53#32, 0x63#32, 0x73#32] := by
  constructor
  · rintro ⟨i, h⟩
    rw [← encode_of_decode h]
    clear h
    cases i with
    | digest => decide
    | ident => decide
    | cksum id => revert id; decide
    | patch => decide
  · intro h
    rw [exists_command_iff_wellFormed]
    exact (List.all_eq_true (p := fun v => (splitWord v).wellFormed)).1 (by decide) w h

/-- Settles O6: each row by the one word, or the eight, of its command. -/
theorem opcodeMapSelectsRows : Obligations.OpcodeMapSelectsRows := by
  intro w
  rw [and_fullMask]
  exact ⟨decode_eq_command_iff, decode_eq_command_iff, fun _ => decode_eq_command_iff.trans eq_encode_cksum_iff,
    decode_eq_command_iff, exists_command_iff_mem w⟩

/-- Settles O8: one word for each row of the map, and one for each way of being illegal. -/
theorem sampleWordsDecode : Obligations.SampleWordsDecode := by
  unfold Obligations.SampleWordsDecode
  decide

/-- Settles O9: the code of an identity is the digit of its name, in the field above `OP`. -/
theorem pseudoInstructionsExpand : Obligations.PseudoInstructionsExpand := by
  unfold Obligations.PseudoInstructionsExpand
  decide

end Sys2Proof
end

section
/-! The host's actions and the step (R28, R64, R73, R77): what the write of a command word does, and that nothing is refused. -/

namespace Sys2Proof.Machine

/-- Issuing a word that decodes to a command runs it (R77). -/
theorem issue_of_command {w : Word} {i : Instr} (h : decode w = .command i) (s : State) : issue w s = exec i s := by
  rw [issue, h]

/-- Issuing an illegal word sets `STATUS.CODE` to 4 and changes nothing else (R73). -/
theorem issue_of_illegal {w : Word} {why : Illegal} (h : decode w = .illegal why) (s : State) :
    issue w s = .next { s with status := 4#32 } := by
  rw [issue, h]
  rfl

/-- A write of `CMD` issues the word (R28). -/
theorem hostAct_write_cmd (w : Word) (s : State) : hostAct (.write .cmd w) s = issue w s := rfl

/-- A write of a command's word to `CMD` runs the command. -/
theorem hostAct_write_encode (i : Instr) (s : State) : hostAct (.write .cmd (encode i)) s = exec i s :=
  issue_of_command (decode_encode i) s

/-- A step takes the first of the host's actions. -/
theorem step_of_cons {s : State} {a : HostAction} {rest : List HostAction} (h : s.inbox = a :: rest) :
    step s = hostAct a (s.setInbox rest) := by
  rcases step_cases s with ⟨hnil, -⟩ | ⟨a', rest', hcons, hact⟩
  · cases h.symm.trans hnil
  · cases h.symm.trans hcons
    exact hact

/-- Settles O7: illegal fields are those of the three ways, and an illegal word raises `IllegalCommand`. -/
theorem illegalWordsOnlySetStatus : Obligations.IllegalWordsOnlySetStatus := by
  intro w s
  have hways := (exists_illegal_iff_not_wellFormed w).trans (wellFormed_eq_false_iff (splitWord w))
  refine ⟨fun h => ?_, hways⟩
  obtain ⟨why, hwhy⟩ := hways.2 h
  exact issue_of_illegal hwhy s

/-- Settles O10: the step is the action, a write of `CMD` is the issue of its word, and a legal word runs its command. -/
theorem stepRunsTheDecodedCommand : Obligations.StepRunsTheDecodedCommand :=
  ⟨fun _ _ _ hin => step_of_cons hin, fun _ _ _ hin => step_of_cons hin,
    fun s _ _ rest hin hdec _ => (step_of_cons hin).trans (issue_of_command hdec (s.setInbox rest))⟩

/-- Settles O11: of the two cases of a step, the empty list leaves the one that idles. -/
theorem stepIdlesWithNoAction : Obligations.StepIdlesWithNoAction := by
  intro s hin
  rcases step_cases s with ⟨-, hidle⟩ | ⟨a, rest, hcons, -⟩
  · exact hidle
  · cases hin.symm.trans hcons

/-- A placed 32-bit word is the host's next write of `CMD`, the word itself. -/
theorem withFetchWord_toNat (s : State) (w : Word) : s.withFetchWord 32 w.toNat = withCommandWord s w := by
  rw [State.withFetchWord, Nat.mod_eq_of_lt w.isLt, BitVec.ofNat_toNat, BitVec.setWidth_eq]

/-- Settles O12: the step takes the placed word off again, and the word decodes to its command. -/
theorem fetchWordRunsNext : Obligations.FetchWordRunsNext := by
  intro s i
  rw [withFetchWord_toNat]
  calc step (withCommandWord s (encode i))
      = hostAct (.write .cmd (encode i)) ((withCommandWord s (encode i)).setInbox s.inbox) := step_of_cons rfl
    _ = exec i s := hostAct_write_encode i s

/-! ### No refusal -/

/-- Every command completes or faults: each way it can end is one of the two. -/
theorem exec_ne_refused (i : Instr) (s : State) (r : Refusal) : exec i s ≠ .refused r := by
  cases i with
  | digest => rcases execDigest_eq s with ⟨-, he⟩ | ⟨-, he⟩ <;> simp [exec, he]
  | ident => rcases execIdent_eq s with ⟨-, he⟩ | ⟨-, he⟩ <;> simp [exec, he]
  | cksum id => rcases execCksum_eq id s with ⟨-, he⟩ | ⟨_, -, -, he⟩ | ⟨_, -, -, he⟩ <;> simp [exec, he]
  | patch => rcases execPatch_eq s with ⟨-, he⟩ | ⟨-, -, he⟩ | ⟨-, -, he⟩ <;> simp [exec, he]

/-- Every command word has a meaning, legal or not. -/
theorem issue_ne_refused (w : Word) (s : State) (r : Refusal) : issue w s ≠ .refused r := by
  cases hd : decode w with
  | command i => rw [issue_of_command hd]; exact exec_ne_refused i s r
  | illegal why => rw [issue_of_illegal hd]; nofun

/-- Every host action has a meaning. -/
theorem hostAct_ne_refused (a : HostAction) (s : State) (r : Refusal) : hostAct a s ≠ .refused r := by
  cases a with
  | write reg v =>
    by_cases hreg : reg = .cmd
    · rw [hreg, hostAct_write_cmd]
      exact issue_ne_refused v s r
    · rw [hostAct_write v s hreg]
      nofun
  | read reg => nofun
  | poke x b => nofun
  | reset => nofun

/-- Settles O13: a step idles or takes a host action. -/
theorem stepNeverRefuses : Obligations.StepNeverRefuses := by
  intro s r
  rcases step_cases s with ⟨-, hidle⟩ | ⟨a, rest, -, hact⟩
  · rw [hidle]
    nofun
  · rw [hact]
    exact hostAct_ne_refused a _ r

end Sys2Proof.Machine
end

section
/-! `REPAIR` (R78): on a buffer long enough none of its commands ends in an error, so it is `IDENT`, the `CKSUM` of the
identity matched and `PATCH`, and the header fields hold what that `CKSUM` computed. -/

namespace Sys2Proof.Machine

open Sys2Proof.Safety

/-! ### What `PATCH` leaves in the header fields (R131) -/

/-- A field rewritten where it differs from a word holds the word. -/
theorem patchField_read32_same {m : Memory} {a : Nat} (v : Word) (h : m.wf = true) (ha : a + 4 ≤ 2 ^ 32) :
    (patchField m a (decide (v ≠ m.read32 a)) v).read32 a = v := by
  by_cases hv : v = m.read32 a
  · simp [patchField, ← hv]
  · simpa [patchField, hv] using Memory.read32_write32_same v h ha

/-- The first field holds `word0`: the write of the second does not reach it. -/
theorem patch_read32_crc1 (p : Config.Params) {m : Memory} (word0 word1 : Word) (h : m.wf = true) :
    (patch p m word0 word1).1.read32 Config.crc1Off = word0 :=
  (patchField_read32_other _ _ _ (by decide)).trans (patchField_read32_same word0 h (by decide))

/-- With `PATCH_COMPAT` = 0 the second field holds `word1` (R132). -/
theorem patch_read32_crc2 {p : Config.Params} (hp : p.patchCompat = false) {m : Memory} (word0 word1 : Word)
    (h : m.wf = true) : (patch p m word0 word1).1.read32 Config.crc2Off = word1 := by
  simp only [patch, needsFix1, secondOperand, hp]
  exact patchField_read32_same word1 (patchField_wf _ _ h (by decide)) (by decide)

/-- A `PATCH` that completes leaves the held pair in the header fields. -/
theorem afterPatch_read32 {s : State} (h : BufferCanonical s) :
    (afterPatch s).mem.read32 0x10 = s.res0 ∧ (afterPatch s).mem.read32 0x14 = s.res1 :=
  ⟨patch_read32_crc1 Config.params s.res0 s.res1 h, patch_read32_crc2 rfl s.res0 s.res1 h⟩

/-- A `PATCH` that completes leaves every byte outside the header fields alone (R135). -/
theorem afterPatch_read_other (s : State) {a : Nat} (ha : a < 0x10 ∨ 0x18 ≤ a) :
    (afterPatch s).mem.read a = s.mem.read a :=
  patch_read_other Config.params s.mem s.res0 s.res1 ha

/-- A `PATCH` that completes leaves `STATUS` 0. -/
@[simp] theorem afterPatch_status (s : State) : (afterPatch s).status = 0#32 := rfl

/-! ### The commands of `REPAIR` -/

/-- `IDENT` completes on a buffer that holds the fingerprint region (R103). -/
theorem exec_ident_of_len {s : State} (h : 0x1000 ≤ s.len.toNat) :
    exec .ident s = .next (afterIdent (fingerprint s.tbl s.mem) s) := by
  rcases execIdent_eq s with ⟨-, he⟩ | ⟨hr, -⟩
  · exact he
  · exact absurd h (of_decide_eq_false hr)

/-- The code of an identity names it (R71). -/
@[simp] theorem identityOfCode_identityCode (idn : Identity) : identityOfCode (identityCode idn) = some idn := by
  cases idn <;> rfl

/-- `CKSUM` of an identity completes on a buffer that holds the checksum region (R119). -/
theorem exec_cksum_of_len (idn : Identity) {s : State} (h : 0x101000 ≤ s.len.toNat) :
    exec (.cksum (identityCode idn)) s = .next (afterCksum idn s) := by
  rcases execCksum_eq (identityCode idn) s with ⟨hid, -⟩ | ⟨_, -, hl, -⟩ | ⟨idn', hid, -, he⟩
  · simp at hid
  · exact absurd h (Nat.not_le.2 hl)
  · cases (identityOfCode_identityCode idn).symm.trans hid
    exact he

/-- `PATCH` completes while a result is held, on a buffer that holds the header (R133). -/
theorem exec_patch_of_held {s : State} (hv : flagRvalid s.flags = true) (h : 0x18 ≤ s.len.toNat) :
    exec .patch s = .next (afterPatch s) := by
  rcases execPatch_eq s with ⟨hv', -⟩ | ⟨-, hl, -⟩ | ⟨-, -, he⟩
  · simp [hv] at hv'
  · exact absurd h (Nat.not_le.2 hl)
  · exact he

/-! ### The procedure, the fingerprint standing as a variable so that nothing computes it -/

/-- The state in which `REPAIR`, after its `IDENT` found the fingerprint `fp`, has read `IDR`. -/
def repairIdentified (fp : Word) (s : State) : State := readReg .idr (afterIdent fp s)

/-- The state in which `REPAIR`, after its `CKSUM`, has read `STATUS`. -/
def repairSummed (fp : Word) (s : State) : State :=
  readReg .status (afterCksum (matchFingerprint fp).1 (repairIdentified fp s))

/-- The `ID` that `REPAIR` reads is the code of the identity matched. -/
theorem idrId_repairIdentified (fp : Word) (s : State) :
    idrId (lastReturned (repairIdentified fp s)) = identityCode (matchFingerprint fp).1 := by
  simp [repairIdentified, lastReturned, readReg, afterIdent]

/-- The `CODE` that `REPAIR` reads is 0. -/
theorem statusCode_repairSummed (fp : Word) (s : State) : statusCode (lastReturned (repairSummed fp s)) = codeOk := by
  simp [repairSummed, lastReturned, readReg, afterCksum]

@[simp] theorem repairIdentified_len (fp : Word) (s : State) : (repairIdentified fp s).len = s.len := by
  simp [repairIdentified, readReg, afterIdent]

@[simp] theorem repairIdentified_mem (fp : Word) (s : State) : (repairIdentified fp s).mem = s.mem := by
  simp [repairIdentified, readReg, afterIdent]

@[simp] theorem repairSummed_len (fp : Word) (s : State) : (repairSummed fp s).len = s.len := by
  simp [repairSummed, readReg, afterCksum]

/-- Before its `PATCH`, `REPAIR` has written no byte. -/
@[simp] theorem repairSummed_mem (fp : Word) (s : State) : (repairSummed fp s).mem = s.mem := by
  simp [repairSummed, readReg, afterCksum]

@[simp] theorem flagRvalid_repairSummed (fp : Word) (s : State) : flagRvalid (repairSummed fp s).flags = true := by
  simp [repairSummed, readReg]

/-- The pair `REPAIR` patches in is the checksum of the buffer it began with. -/
theorem repairSummed_result (fp : Word) (s : State) :
    ((repairSummed fp s).res0, (repairSummed fp s).res1) =
      computeChecksum Config.params s.mem (matchFingerprint fp).1 := by
  simp [repairSummed, readReg, afterCksum]

/-- `REPAIR` goes through all its parts on a buffer that holds the checksum region. -/
theorem repair_of_len {s : State} (h : 0x101000 ≤ s.len.toNat) :
    repair s = .next (afterPatch (repairSummed (fingerprint s.tbl s.mem) s)) := by
  have hident := exec_ident_of_len (s := s) (by omega)
  generalize fingerprint s.tbl s.mem = fp at hident ⊢
  have hcksum := exec_cksum_of_len (matchFingerprint fp).1 (s := repairIdentified fp s) (by rwa [repairIdentified_len])
  have hpatch := exec_patch_of_held (flagRvalid_repairSummed fp s) (by rw [repairSummed_len]; omega)
  simp only [repair, andThen_next, hostAct_write_encode, hostAct_read]
  refine ⟨_, hident, repairIdentified fp s, rfl, afterCksum (matchFingerprint fp).1 (repairIdentified fp s), ?_,
    repairSummed fp s, rfl, ?_⟩
  · rw [idrId_repairIdentified]
    exact hcksum
  · rw [if_pos (statusCode_repairSummed fp s)]
    exact hpatch

/-- Settles O57: `REPAIR` ends with a `PATCH` that completes and holds the checksum of the buffer as it was. -/
theorem repairWritesTheChecksum : Obligations.RepairWritesTheChecksum := by
  intro s hcanon hlen
  have hfp : digest s.tbl s.mem 0x40 0xFC0 = fingerprint s.tbl s.mem := rfl
  have hrepair := repair_of_len hlen
  rw [hfp]
  generalize fingerprint s.tbl s.mem = fp at hrepair ⊢
  have hcanon' : BufferCanonical (repairSummed fp s) := by rwa [BufferCanonical, repairSummed_mem]
  obtain ⟨h0, h1⟩ := afterPatch_read32 hcanon'
  refine ⟨_, hrepair, afterPatch_status _, ?_, fun a ha => ?_⟩
  · rw [h0, h1, repairSummed_result]
  · rw [afterPatch_read_other _ ha, repairSummed_mem]

end Sys2Proof.Machine
end

section
/-! The bit step of the CRC-32 is linear over exclusive or, and on a value whose low bits are zero it only shifts (R96 (a)). So
eight bit steps take a word apart: the bits above the low byte are shifted down, the low byte selects an entry of the table. -/

namespace Sys2Proof.Machine

theorem shr32_xor (a b : Word) (n : Nat) : shr32 (a ^^^ b) n = shr32 a n ^^^ shr32 b n :=
  BitVec.ushiftRight_xor_distrib a b n

/-- A shift by 8 leaves nothing of a byte. -/
theorem shr32_zext32 (b : Byte) : shr32 (zext32 b) 8 = 0#32 := by
  apply BitVec.eq_of_toNat_eq
  rw [toNat_shr32, zext32, BitVec.toNat_setWidth_of_le (by decide)]
  exact Nat.div_eq_of_lt b.isLt

theorem getLsbD_zext32_low8 (v : Word) {j : Nat} (hj : j < 8) : (zext32 (low8 v)).getLsbD j = v.getLsbD j := by
  have hj' : j < 32 := by omega
  simp [zext32, low8, hj, hj']

/-! ### The bit step -/

/-- A bit step is a shift, and an exclusive or with the polynomial where the low bit is 1: both are linear. -/
theorem crcBitStep_xor (a b : Word) : crcBitStep (a ^^^ b) = crcBitStep a ^^^ crcBitStep b := by
  unfold crcBitStep
  rw [BitVec.getLsbD_xor, shr32_xor]
  generalize shr32 a 1 = x
  generalize shr32 b 1 = y
  cases a.getLsbD 0 <;> cases b.getLsbD 0
  · rfl
  · exact BitVec.xor_assoc x y _
  · change (x ^^^ y) ^^^ Config.poly = (x ^^^ Config.poly) ^^^ y
    ac_rfl
  · change x ^^^ y = (x ^^^ Config.poly) ^^^ (y ^^^ Config.poly)
    calc x ^^^ y
        = (x ^^^ y) ^^^ (Config.poly ^^^ Config.poly) := by rw [BitVec.xor_self, BitVec.xor_zero]
      _ = (x ^^^ Config.poly) ^^^ (y ^^^ Config.poly) := by ac_rfl

theorem crcBitSteps_xor (k : Nat) (a b : Word) :
    crcBitSteps k (a ^^^ b) = crcBitSteps k a ^^^ crcBitSteps k b := by
  induction k generalizing a b with
  | zero => rfl
  | succ k ih => rw [crcBitSteps, crcBitStep_xor, ih, crcBitSteps, crcBitSteps]

/-- `k` bit steps of a value whose low `k` bits are zero shift it. -/
theorem crcBitSteps_of_low_zero {k : Nat} {c : Word} (h : ∀ j, j < k → c.getLsbD j = false) :
    crcBitSteps k c = shr32 c k := by
  induction k generalizing c with
  | zero => exact (BitVec.ushiftRight_zero c).symm
  | succ k ih =>
    have hstep : crcBitStep c = shr32 c 1 := by
      rw [crcBitStep, h 0 k.succ_pos]
      rfl
    have hlow : ∀ j, j < k → (shr32 c 1).getLsbD j = false := fun j hj => by
      rw [shr32, BitVec.getLsbD_ushiftRight]
      exact h (1 + j) (by omega)
    rw [crcBitSteps, hstep, ih hlow, shr32, shr32, shr32, ← BitVec.shiftRight_add, Nat.add_comm]

/-- Eight bit steps of a word: its low byte contributes the table's value, what is above it is shifted. -/
theorem crcBitSteps_eight (x : Word) : crcBitSteps 8 x = shr32 x 8 ^^^ tblgen (low8 x) := by
  have hlow : ∀ j, j < 8 → (x ^^^ zext32 (low8 x)).getLsbD j = false := fun j hj => by
    rw [BitVec.getLsbD_xor, getLsbD_zext32_low8 x hj, Bool.xor_self]
  calc crcBitSteps 8 x
      = crcBitSteps 8 ((x ^^^ zext32 (low8 x)) ^^^ zext32 (low8 x)) := by
        rw [BitVec.xor_assoc, BitVec.xor_self, BitVec.xor_zero]
    _ = shr32 (x ^^^ zext32 (low8 x)) 8 ^^^ tblgen (low8 x) := by
        rw [crcBitSteps_xor, crcBitSteps_of_low_zero hlow, tblgen]
    _ = shr32 x 8 ^^^ tblgen (low8 x) := by
        rw [shr32_xor, shr32_zext32, BitVec.xor_zero]

/-- Settles O22: the byte is gone from the shifted part, so the two parts of the eight bit steps are those of the table step. -/
theorem tableStepIsEightBitSteps : Obligations.TableStepIsEightBitSteps := by
  intro c b
  rw [crcBitSteps_eight, shr32_xor, shr32_zext32, BitVec.xor_zero, crcStep, tableEntry_generatedTable]

/-- Settles O21: five values and their intermediates, each a run of at most eight bit steps. -/
theorem tblgenWorkedExamples : Obligations.TblgenWorkedExamples := by
  unfold Obligations.TblgenWorkedExamples
  decide

end Sys2Proof.Machine
end

section
/-! The digest and the command `DIGEST` (R92, R93, R95, R96). -/

namespace Sys2Proof.Machine

open Sys2Proof.Safety

/-! ### The digest -/

/-- With the generated table the running value is the one taken bit by bit, byte after byte. -/
theorem digestRun_generatedTable (m : Memory) (start n : Nat) :
    digestRun generatedTable m start n = bitwiseRun m start n := by
  induction n with
  | zero => rfl
  | succ n ih => rw [digestRun, ih, tableStepIsEightBitSteps, bitwiseRun]

theorem digest_generatedTable (m : Memory) (start n : Nat) :
    digest generatedTable m start n = bitwiseCrc m start n := by
  rw [digest, digestRun_generatedTable, not32, bitwiseCrc]

/-- Settles O24: the running values agree byte after byte. -/
theorem digestDependsOnRangeBytesOnly : Obligations.DigestDependsOnRangeBytesOnly :=
  fun tbl _ _ _ _ _ h => digest_congr tbl h

/-- Settles O26: with no byte taken the running value is the initial one, all ones. -/
theorem emptyDigestIsZero : Obligations.EmptyDigestIsZero := by
  intro tbl m start
  have hnone : digest tbl m start 0 = not32 0xFFFFFFFF#32 := rfl
  exact ⟨hnone, hnone.trans (by decide)⟩

/-! ### The command -/

/-- `DIGEST` completes on a range that lies in the buffer (R93). -/
theorem exec_digest_of_range {s : State} (h : s.arg0.toNat + s.arg1.toNat ≤ s.len.toNat) :
    exec .digest s = .next (afterDigest (digest s.tbl s.mem s.arg0.toNat s.arg1.toNat) s) := by
  rcases execDigest_eq s with ⟨-, he⟩ | ⟨hr, -⟩
  · exact he
  · exact absurd h (of_decide_eq_false hr)

/-- On a range that leaves the buffer it is the undefined case (R94, R145). -/
theorem exec_digest_of_not_range {s : State} (h : s.len.toNat < s.arg0.toNat + s.arg1.toNat) :
    exec .digest s = .fault .rangeUndefined := by
  rcases execDigest_eq s with ⟨hr, -⟩ | ⟨-, he⟩
  · exact absurd (of_decide_eq_true hr) (Nat.not_le.2 h)
  · exact he

@[simp] theorem afterDigest_dgst (v : Word) (s : State) : (afterDigest v s).dgst = v := rfl

/-- A `DIGEST` that completes leaves `STATUS` 0. -/
@[simp] theorem afterDigest_status (v : Word) (s : State) : (afterDigest v s).status = 0#32 := rfl

/-- Settles O23: the table of the state is the generated one, with which the digest is the bitwise CRC. -/
theorem digestIsTheBitwiseCrc : Obligations.DigestIsTheBitwiseCrc := by
  intro s htbl hrange
  refine ⟨_, exec_digest_of_range hrange, ?_⟩
  rw [afterDigest_dgst, htbl, digest_generatedTable]

/-- Settles O25: a `DIGEST` that completes updates `DGST`, the scratch `crc` and `STATUS`, whatever value it found. -/
theorem digestCommand : Obligations.DigestCommand := by
  refine fun s => ⟨fun hrange => ?_, exec_digest_of_not_range⟩
  have hempty : s.arg1 = 0#32 → digest s.tbl s.mem s.arg0.toNat s.arg1.toNat = 0#32 := fun h0 => by
    rw [h0]
    exact (emptyDigestIsZero s.tbl s.mem s.arg0.toNat).2
  have hexec := exec_digest_of_range hrange
  generalize digest s.tbl s.mem s.arg0.toNat s.arg1.toNat = v at hempty hexec ⊢
  exact ⟨afterDigest v s, hexec, afterDigest_dgst v s, hempty, afterDigest_status v s, fun _ => rfl, rfl,
    ⟨rfl, rfl⟩, rfl, ⟨rfl, rfl, rfl⟩, rfl, ⟨rfl, rfl⟩, rfl, rfl⟩

end Sys2Proof.Machine
end

section
/-! The fingerprint matcher and the command `IDENT` (R100 to R104). -/

namespace Sys2Proof.Machine

open Sys2Proof.Safety

/-! ### The matcher -/

/-- A value that none of the five comparisons accepts gets the default (R101). -/
theorem matchFingerprint_of_ne {fp : Word} (h1 : fp ≠ Config.fpV1) (h2 : fp ≠ Config.fpV2) (h3 : fp ≠ Config.fpV3)
    (h5 : fp ≠ Config.fpV5) (h6 : fp ≠ Config.fpV6) : matchFingerprint fp = (.v5, false) := by
  rw [matchFingerprint, if_neg h1, if_neg h2, if_neg h3, if_neg h5, if_neg h6]

/-- Settles O27: each constant reaches its own comparison, and a value outside the list fails all five. -/
theorem fingerprintTable : Obligations.FingerprintTable := by
  refine ⟨by decide, by decide, by decide, by decide, by decide, fun fp hfp => ?_⟩
  simp only [List.mem_cons, List.not_mem_nil, or_false, not_or] at hfp
  obtain ⟨h1, h2, h3, h5, h6⟩ := hfp
  exact matchFingerprint_of_ne h1 h2 h3 h5 h6

/-! ### The command -/

/-- On a buffer shorter than the fingerprint region `IDENT` is the undefined case (R103, R145). -/
theorem exec_ident_of_short {s : State} (h : s.len.toNat < 0x1000) : exec .ident s = .fault .rangeUndefined := by
  rcases execIdent_eq s with ⟨hr, -⟩ | ⟨-, he⟩
  · exact absurd (of_decide_eq_true hr) (Nat.not_le.2 h)
  · exact he

@[simp] theorem afterIdent_dgst (fp : Word) (s : State) : (afterIdent fp s).dgst = fp := rfl

@[simp] theorem afterIdent_idr (fp : Word) (s : State) :
    (afterIdent fp s).idr = idrWord (identityCode (matchFingerprint fp).1) (matchFingerprint fp).2 := rfl

/-- An `IDENT` that completes leaves `STATUS` 0. -/
@[simp] theorem afterIdent_status (fp : Word) (s : State) : (afterIdent fp s).status = 0#32 := rfl

/-- A stored answer has its reserved bits zero (R32). -/
theorem idrWord_lt_sixteen (id : BitVec 3) (b : Bool) : (idrWord id b).toNat < 2 ^ 4 := by
  rw [idrWord, BitVec.toNat_setWidth_of_le (by decide)]
  exact BitVec.isLt _

/-- Settles O28: an `IDENT` that completes updates `DGST`, `IDR`, the scratch `crc` and `STATUS`, whatever fingerprint it
found. -/
theorem identCommand : Obligations.IdentCommand := by
  refine fun s => ⟨fun hlen => ?_, exec_ident_of_short⟩
  have hfp : digest s.tbl s.mem 0x40 0xFC0 = fingerprint s.tbl s.mem := rfl
  have hexec := exec_ident_of_len hlen
  rw [hfp]
  generalize fingerprint s.tbl s.mem = fp at hexec ⊢
  refine ⟨afterIdent fp s, hexec, afterIdent_dgst fp s, ?_, ?_, ?_, afterIdent_status fp s, fun _ => rfl, ⟨rfl, rfl⟩,
    rfl, ⟨rfl, rfl, rfl⟩, rfl, ⟨rfl, rfl⟩, rfl, rfl⟩
  · rw [afterIdent_idr, idrId_idrWord]
  · rw [afterIdent_idr, idrMatch_idrWord]
  · rw [afterIdent_idr]
    exact idrWord_lt_sixteen _ _

/-! ### The answer as a function of the region -/

/-- The fingerprint reads the bytes of its region and nothing else (R100, R104). -/
theorem fingerprint_congr (tbl : Vector Word 256) {m m' : Memory} (h : AgreeOn 0x40 0x1000 m m') :
    fingerprint tbl m = fingerprint tbl m' :=
  digest_congr tbl fun j (hj : j < 0xFC0) => h (0x40 + j) (by omega) (by omega)

/-- The five codes; 0, 4 and 7 name no identity (R71, R104). -/
theorem identityCode_mem (idn : Identity) : identityCode idn ∈ [1#3, 2#3, 3#3, 5#3, 6#3] := by
  cases idn <;> decide

/-- Settles O29: both commands find the same fingerprint, and it alone sets `DGST` and `IDR`. -/
theorem identIsAFunctionOfTheRegion : Obligations.IdentIsAFunctionOfTheRegion := by
  intro s s' hlen hlen' htbl hregion
  have hexec := exec_ident_of_len hlen
  have hexec' := exec_ident_of_len hlen'
  rw [← htbl, ← fingerprint_congr s.tbl hregion] at hexec'
  generalize fingerprint s.tbl s.mem = fp at hexec hexec'
  refine ⟨afterIdent fp s, afterIdent fp s', hexec, hexec', ?_, ?_, fun _ => rfl, ?_⟩
  · rw [afterIdent_dgst, afterIdent_dgst]
  · rw [afterIdent_idr, afterIdent_idr]
  · rw [afterIdent_idr, idrId_idrWord]
    exact identityCode_mem _

end Sys2Proof.Machine
end

section
/-! The checksum accumulator (R111 to R120): one iteration, what `t4`, `t6` and `t7` hold after any number of them, and the
two ways of the final combination. -/

namespace Sys2Proof.Machine

open Sys2Proof.Safety

/-! ### One iteration (R114) -/

/-- Settles O30: the word and the auxiliary word lie where `iterate` reads them, and each register is what the seven steps
leave in it. -/
theorem iterationFollowsItsSteps : Obligations.IterationFollowsItsSteps := by
  intro m idn off a d aux r b
  have hb : b = accStep idn d aux a := rfl
  have hr : rotatedWord d = r := rfl
  have h5 : b.t5 = a.t5 + r := accStep_t5 idn d aux a
  have h6 : b.t6 = a.t6 + d := accStep_t6 idn d aux a
  refine ⟨?_, h6, accStep_t3 idn d aux a, h5, ?_, fun hidn => ⟨?_, ?_⟩, fun hidn => ⟨?_, ?_⟩⟩
  · simp only [hb, accStep_t4, carry32_iff, add32]
  · simp only [h6]
    simp only [hb, accStep_t2, ugt_iff, hr, add32]
  · rw [hb, accStep_t7, if_pos hidn]
  · rw [hb, accStep_t1, if_pos hidn, add32]
  · rw [hb, accStep_t7, if_neg hidn]
  · rw [h5, hb, accStep_t1, if_neg hidn, hr, add32, add32]

/-- Iteration `k` takes the seven steps on word number `k` of the region and on the auxiliary word that the window, 256 bytes
long, holds for it (R112, R117). -/
theorem accAfter_succ (p : Config.Params) (m : Memory) (idn : Identity) {k : Nat} (hk : k < 262144) :
    accAfter p m idn (k + 1) =
      accStep idn (regionWord m k) (m.read32 (0x750 + 4 * k % 0x100)) (accAfter p m idn k) := by
  rw [accAfter, iterate, read32_wordAddr_loopOffset m hk, auxAddr_loopOffset hk]

/-! ### The sum and its carries (R116) -/

theorem accAfter_succ_t4 (p : Config.Params) (m : Memory) (idn : Identity) {k : Nat} (hk : k < 262144) :
    (accAfter p m idn (k + 1)).t4 =
      if carry32 (accAfter p m idn k).t6 (regionWord m k) then add32 (accAfter p m idn k).t4 1
      else (accAfter p m idn k).t4 := by
  rw [accAfter_succ p m idn hk, accStep_t4]

theorem accAfter_succ_t6 (p : Config.Params) (m : Memory) (idn : Identity) {k : Nat} (hk : k < 262144) :
    (accAfter p m idn (k + 1)).t6 = add32 (accAfter p m idn k).t6 (regionWord m k) := by
  rw [accAfter_succ p m idn hk, accStep_t6]

theorem toNat_accAfter_t6 (p : Config.Params) (m : Memory) (idn : Identity) {k : Nat} (hk : k ≤ 262144) :
    (accAfter p m idn k).t6.toNat = ((seed p idn).toNat + wordSum m k) % 2 ^ 32 := by
  induction k with
  | zero => exact (Nat.mod_eq_of_lt (seed p idn).isLt).symm
  | succ k ih =>
    rw [accAfter_succ_t6 p m idn hk, toNat_add32, ih (by omega), wordSum, Nat.mod_add_mod, Nat.add_assoc]

/-- Adding a word to a total raises the total's multiple of 2^32 by one if the low 32 bits carry, and else leaves it. -/
theorem add_word_div (n : Nat) (d : Word) :
    (n + d.toNat) / 2 ^ 32 = n / 2 ^ 32 + if 2 ^ 32 ≤ n % 2 ^ 32 + d.toNat then 1 else 0 := by
  have hd := d.isLt
  split <;> omega

theorem toNat_accAfter_t4 (p : Config.Params) (m : Memory) (idn : Identity) {k : Nat} (hk : k ≤ 262144) :
    (accAfter p m idn k).t4.toNat =
      ((seed p idn).toNat + ((seed p idn).toNat + wordSum m k) / 2 ^ 32) % 2 ^ 32 := by
  induction k with
  | zero =>
    have hseed := (seed p idn).isLt
    change (seed p idn).toNat = ((seed p idn).toNat + ((seed p idn).toNat + 0) / 2 ^ 32) % 2 ^ 32
    omega
  | succ k ih =>
    rw [accAfter_succ_t4 p m idn hk, wordSum, ← Nat.add_assoc, add_word_div]
    simp only [carry32_iff, toNat_accAfter_t6 p m idn (by omega : k ≤ 262144)]
    split
    · rw [toNat_add32, ih (by omega), Nat.mod_add_mod, Nat.add_assoc]
      rfl
    · rw [ih (by omega), Nat.add_zero]

/-- At most one carry an iteration: the seed and each word are below 2^32. -/
theorem carries_le (p : Config.Params) (m : Memory) (idn : Identity) (k : Nat) :
    ((seed p idn).toNat + wordSum m k) / 2 ^ 32 ≤ k := by
  induction k with
  | zero => exact (Nat.div_eq_of_lt (seed p idn).isLt).le
  | succ k ih =>
    rw [wordSum, ← Nat.add_assoc, add_word_div]
    split <;> omega

/-- Settles O31: the two closed forms and the bound, each by induction on the number of iterations; a carry out of `t6 + d` is
the sum coming out below the old `t6`. -/
theorem sumAndCarriesClosedForm : Obligations.SumAndCarriesClosedForm := by
  refine fun p m idn k hk => ⟨toNat_accAfter_t6 p m idn hk, toNat_accAfter_t4 p m idn hk, carries_le p m idn k,
    fun hlt => ⟨?_, ?_⟩⟩
  · simp only [accAfter_succ_t4 p m idn hlt, carry32_iff, add32]
  · rw [accAfter_succ_t6 p m idn hlt, ← carry32_iff, carry32_iff_add32_lt]

/-! ### The auxiliary register (R117) -/

theorem accAfter_t7_of_ne_v5 (p : Config.Params) (m : Memory) {idn : Identity} (hidn : idn ≠ .v5) (k : Nat) :
    (accAfter p m idn k).t7 = seed p idn := by
  induction k with
  | zero => rfl
  | succ k ih => rw [accAfter, iterate, accStep_t7, if_neg hidn, ih]

/-- Settles O33: V5 loads `t7` anew in every iteration, and no other identity ever writes it. -/
theorem auxiliaryRegisterContents : Obligations.AuxiliaryRegisterContents := by
  refine fun p m k hk => ⟨?_, fun idn hidn => accAfter_t7_of_ne_v5 p m hidn (k + 1)⟩
  rw [accAfter_succ p m .v5 hk, accStep_t7, if_pos rfl]

/-! ### The seeds (R111) -/

/-- The identity matters to an iteration only as V5 or not (R114). -/
theorem accStep_of_ne_v5 {idn idn' : Identity} (h : idn ≠ .v5) (h' : idn' ≠ .v5) (d aux : Word) (a : Acc) :
    accStep idn d aux a = accStep idn' d aux a := by
  simp only [accStep, accVariant, if_neg h, if_neg h']

theorem accAfter_v1_eq_v2 (p : Config.Params) (m : Memory) (k : Nat) : accAfter p m .v1 k = accAfter p m .v2 k := by
  induction k with
  | zero => rfl
  | succ k ih => rw [accAfter, accAfter, ih, iterate, iterate, accStep_of_ne_v5 (idn' := .v2) (by decide) (by decide)]

theorem computeChecksum_v1_eq_v2 (p : Config.Params) (m : Memory) :
    computeChecksum p m .v1 = computeChecksum p m .v2 := by
  rw [computeChecksum, computeChecksum, accAfter_v1_eq_v2, combine, combine]

/-- Settles O35: V1 and V2 share their seed, their iteration and their final combination. -/
theorem seedSelection : Obligations.SeedSelection :=
  fun p => ⟨rfl, rfl, rfl, rfl, rfl, computeChecksum_v1_eq_v2 p⟩

/-! ### The regions read (R120) -/

/-- Settles O39: every iteration reads its word in the checksum region and, under V5 alone, its auxiliary word in the window. -/
theorem cksumReadsOnlyItsRegions : Obligations.CksumReadsOnlyItsRegions :=
  fun p _ _ _ hword haux => computeChecksum_congr hword haux p

/-! ### The all-zero buffer (R119) -/

/-- Working registers that are all at `s`, but for `t1` and `t7`: what zero words leave of the seed. -/
def accButT1T7 (s t1 t7 : Word) : Acc := { Acc.all s with t1 := t1, t7 := t7 }

@[simp] theorem rotatedWord_zero : rotatedWord 0#32 = 0#32 := by decide

theorem accCarry_zero (a : Acc) : accCarry 0 a = a :=
  if_neg (by rw [carry32_iff]; exact Nat.not_le.2 a.t6.isLt)

theorem accSum_zero (a : Acc) : accSum 0 a = a := by
  simp [accSum, add32]

theorem accRotated_zero (a : Acc) : accRotated 0 a = a := by
  simp [accRotated, add32]

/-- A `t2` that is not above 0 is 0, so the else branch leaves in it the `t6` it equals. -/
theorem accMix_zero {a : Acc} (h : a.t2 = a.t6) : accMix 0 a = a := by
  rw [accMix]
  split
  case isTrue => simp
  case isFalse hle =>
    have ht2 : a.t2 = 0 := BitVec.eq_of_toNat_eq (Nat.eq_zero_of_not_pos (mt (ugt_iff a.t2 0).2 hle))
    have hxor : a.t2 ^^^ (a.t6 ^^^ 0) = a.t2 := by rw [← h, ht2]; rfl
    rw [hxor]

/-- On zero words, steps 1 to 6 do nothing and step 7 adds `t5` to `t1`, or under V5 clears `t7`. -/
theorem accStep_zero (idn : Identity) (s t1 t7 : Word) :
    accStep idn 0 0 (accButT1T7 s t1 t7) =
      if idn = .v5 then accButT1T7 s t1 0 else accButT1T7 s (add32 t1 s) t7 := by
  rw [accStep, accCarry_zero, accSum_zero, accRotated_zero, accMix_zero rfl]
  simp [accVariant, accButT1T7, Acc.all, add32]

section
variable {m : Memory} (hzero : ∀ a, m.read a = 0#8)
include hzero

theorem read32_of_zero (a : Nat) : m.read32 a = 0#32 := by
  simp [Memory.read32, hzero]

theorem accAfter_v5_of_zero (p : Config.Params) (k : Nat) :
    ∃ t7, accAfter p m .v5 k = accButT1T7 p.seedC p.seedC t7 := by
  induction k with
  | zero => exact ⟨p.seedC, rfl⟩
  | succ k ih =>
    obtain ⟨t7, ih⟩ := ih
    rw [accAfter, ih, iterate, read32_of_zero hzero, read32_of_zero hzero]
    exact ⟨0, accStep_zero .v5 _ _ _⟩

/-- Under V1 each iteration adds the seed, which is what `t5` still holds, to `t1`. -/
theorem accAfter_v1_of_zero (p : Config.Params) (k : Nat) :
    accAfter p m .v1 k = accButT1T7 p.seedA (p.seedA * BitVec.ofNat 32 (k + 1)) p.seedA := by
  induction k with
  | zero =>
    have hone : p.seedA * BitVec.ofNat 32 1 = p.seedA := BitVec.mul_one p.seedA
    rw [hone]
    rfl
  | succ k ih =>
    have ht1 : add32 (p.seedA * BitVec.ofNat 32 (k + 1)) p.seedA = p.seedA * BitVec.ofNat 32 (k + 1 + 1) := by
      rw [add32, BitVec.ofNat_add (k + 1) 1, BitVec.mul_add, BitVec.mul_one]
    rw [accAfter, ih, iterate, read32_of_zero hzero, read32_of_zero hzero, ← ht1]
    exact accStep_zero .v1 _ _ _

end

/-- Settles O40: `t6 = t4` and `t5 = t2` cancel in the final combination, which leaves `t3` and `t1`. -/
theorem cksumOfAllZeroBuffer : Obligations.CksumOfAllZeroBuffer := by
  intro p m hzero
  have hv1 : computeChecksum p m .v1 = (p.seedA, mul32 p.seedA 0x40001#32) := by
    have hwords : BitVec.ofNat 32 (Config.ckWords + 1) = 0x40001#32 := rfl
    rw [computeChecksum, accAfter_v1_of_zero hzero, hwords]
    simp [combine, accButT1T7, Acc.all, mul32]
  refine ⟨?_, hv1, computeChecksum_v1_eq_v2 p m ▸ hv1⟩
  obtain ⟨t7, hacc⟩ := accAfter_v5_of_zero hzero p Config.ckWords
  rw [computeChecksum, hacc]
  simp [combine, accButT1T7, Acc.all]

/-! ### The final combination (R118) -/

/-- Settles O36: the additions and the product are taken modulo 2^32, and a sum of remainders is the remainder of the sum. -/
theorem finalCombination : Obligations.FinalCombination := by
  intro a
  refine ⟨toNat_add32 _ _, toNat_add32 _ _, ?_, ?_, fun idn hidn => ?_⟩
  · rw [combine, toNat_add32, toNat_mul32, Nat.mod_add_mod]
  · rw [combine, toNat_add32, toNat_mul32, Nat.mod_add_mod]
  · simp only [List.mem_cons, List.not_mem_nil, or_false] at hidn
    rcases hidn with rfl | rfl | rfl <;> rfl

end Sys2Proof.Machine
end

section
/-! The command `CKSUM` (R110, R119): the case that completes and the two errors, with what each leaves unchanged. -/

namespace Sys2Proof.Machine

open Sys2Proof.Safety

/-- The rows of R71 pair each identity with its code. -/
theorem eq_identityCode_of_mem {id : BitVec 3} {idn : Identity}
    (h : (id, idn) ∈ [(1#3, Identity.v1), (2#3, .v2), (3#3, .v3), (5#3, .v5), (6#3, .v6)]) :
    id = identityCode idn := by
  simp only [List.mem_cons, Prod.mk.injEq, List.not_mem_nil, or_false] at h
  rcases h with ⟨rfl, rfl⟩ | ⟨rfl, rfl⟩ | ⟨rfl, rfl⟩ | ⟨rfl, rfl⟩ | ⟨rfl, rfl⟩ <;> rfl

/-- Writing `RVALID` leaves every other bit of `FLAGS` alone. -/
theorem getLsbD_putRvalid_other (w : Word) (b : Bool) {k : Nat} (hk : k ≠ 2) :
    (putRvalid w b).getLsbD k = w.getLsbD k := by
  rw [getLsbD_putRvalid, if_neg hk]

/-- Settles O37: a `CKSUM` that completes updates `RES0`, `RES1`, `RVALID`, `STATUS` and the scratch registers. -/
theorem cksumCompletes : Obligations.CksumCompletes := by
  intro s id idn hmem hlen
  obtain rfl := eq_identityCode_of_mem hmem
  have hflags : (afterCksum idn s).flags = putRvalid s.flags true := rfl
  refine ⟨afterCksum idn s, exec_cksum_of_len idn hlen, afterCksum_result idn s, flagRvalid_afterCksum idn s,
    afterCksum_status idn s, ?_, ?_, fun k hk => ?_, fun _ => rfl, rfl, rfl, ⟨rfl, rfl, rfl⟩, rfl, rfl, rfl, rfl⟩
  · rw [hflags, flagFix0_putRvalid]
  · rw [hflags, flagFix1_putRvalid]
  · rw [hflags, getLsbD_putRvalid_other _ _ hk]

/-- The codes that name no identity (R71). -/
theorem identityOfCode_eq_none_iff {id : BitVec 3} : identityOfCode id = none ↔ id ∈ [0#3, 4#3, 7#3] := by
  revert id
  decide

theorem exec_cksum_of_no_identity {id : BitVec 3} (hid : id ∈ [0#3, 4#3, 7#3]) (s : State) :
    exec (.cksum id) s = .next (raiseByCksum .unsupportedBootChip s) := by
  rcases execCksum_eq id s with ⟨-, he⟩ | ⟨idn, hidn, -⟩ | ⟨idn, hidn, -⟩
  · exact he
  all_goals cases (identityOfCode_eq_none_iff.2 hid).symm.trans hidn

theorem exec_cksum_of_short {id : BitVec 3} (hid : id ∉ [0#3, 4#3, 7#3]) {s : State} (h : s.len.toNat < 0x101000) :
    exec (.cksum id) s = .next (raiseByCksum .truncatedImage s) := by
  rcases execCksum_eq id s with ⟨hnone, -⟩ | ⟨_, -, -, he⟩ | ⟨_, -, hl, -⟩
  · exact absurd (identityOfCode_eq_none_iff.1 hnone) hid
  · exact he
  · exact absurd h (Nat.not_lt.2 hl)

/-- Settles O38: the identity decides which error is raised, and either one updates `STATUS`, `RVALID`, `RES0` and `RES1`. -/
theorem cksumErrors : Obligations.CksumErrors := by
  intro s id code h
  have hexec : ∃ e, exec (.cksum id) s = .next (raiseByCksum e s) ∧ statusWord (errorCode e) = code := by
    split at h
    case isTrue hid => exact ⟨_, exec_cksum_of_no_identity hid s, h.symm⟩
    case isFalse hid =>
      obtain ⟨hlen, rfl⟩ := h
      exact ⟨_, exec_cksum_of_short hid hlen, rfl⟩
  obtain ⟨e, he, hcode⟩ := hexec
  refine ⟨_, he, hcode, flagRvalid_putRvalid _ _, fun k hk => getLsbD_putRvalid_other _ _ hk, fun _ => rfl, rfl, rfl,
    ⟨rfl, rfl, rfl⟩, rfl, rfl, ⟨rfl, rfl⟩, rfl, rfl⟩

end Sys2Proof.Machine
end

section
/-! The two header fields (R130 to R132): which of them the patch function rewrites, and what a rewrite leaves. Rewriting a
field with the word it already holds changes no byte, so beside the flags it matters only where the words differ. -/

namespace Sys2Proof.Machine

/-! ### A word that is written where it already stands -/

/-- Buffers that hold the same word at an offset hold the same four bytes there. -/
theorem Memory.read_eq_of_read32_eq {m m' : Memory} {a x : Nat} (h : m.read32 a = m'.read32 a) (hlo : a ≤ x)
    (hhi : x < a + 4) : m.read x = m'.read x := by
  have hword := congrArg BitVec.toNat h
  rw [wordReadIsBigEndian, wordReadIsBigEndian] at hword
  apply BitVec.eq_of_toNat_eq
  obtain rfl | rfl | rfl | rfl : x = a ∨ x = a + 1 ∨ x = a + 2 ∨ x = a + 3 := by omega
  all_goals omega

/-- A word write of the word a canonical buffer already holds there changes nothing. -/
theorem Memory.write32_read32 {m : Memory} {a : Nat} (h : m.wf = true) (ha : a + 4 ≤ 2 ^ 32) :
    m.write32 a (m.read32 a) = m := by
  refine canonicalBuffersAreDetermined _ _ (Memory.wf_write32 a _ h (by omega)) h fun x => ?_
  by_cases hx : x < a ∨ a + 4 ≤ x
  · exact Memory.read_write32_other m _ hx
  · exact Memory.read_eq_of_read32_eq (Memory.read32_write32_same _ h ha) (by omega) (by omega)

/-- Whether or not a field is rewritten, it is left as it was when it holds its word already. -/
theorem patchField_of_stored {m : Memory} {a : Nat} (fix : Bool) {v : Word} (h : m.wf = true) (ha : a + 4 ≤ 2 ^ 32)
    (hv : m.read32 a = v) : patchField m a fix v = m := by
  subst hv
  cases fix with
  | false => rfl
  | true => exact Memory.write32_read32 h ha

/-! ### The patch function -/

/-- Writing the first field does not reach the word that the second comparison reads. -/
theorem needsFix1_patchField (compat : Bool) (m : Memory) (fix : Bool) (v word0 word1 : Word) :
    needsFix1 compat (patchField m Config.crc1Off fix v) word0 word1 = needsFix1 compat m word0 word1 := by
  rw [needsFix1, needsFix1, patchField_read32_other _ _ _ (by decide)]

theorem patch_mem (p : Config.Params) (m : Memory) (word0 word1 : Word) :
    (patch p m word0 word1).1 =
      patchField (patchField m Config.crc1Off (needsFix0 m word0) word0) Config.crc2Off
        (needsFix1 p.patchCompat m word0 word1) word1 := by
  rw [← needsFix1_patchField p.patchCompat m (needsFix0 m word0) word0]
  rfl

theorem patch_fix0 (p : Config.Params) (m : Memory) (word0 word1 : Word) :
    (patch p m word0 word1).2.1 = needsFix0 m word0 := rfl

theorem patch_fix1 (p : Config.Params) (m : Memory) (word0 word1 : Word) :
    (patch p m word0 word1).2.2 = needsFix1 p.patchCompat m word0 word1 :=
  needsFix1_patchField _ _ _ _ _ _

/-- With `PATCH_COMPAT` = 0, fields that hold their words already are not written (R131). -/
theorem patch_of_stored {p : Config.Params} (hp : p.patchCompat = false) {m : Memory} {word0 word1 : Word}
    (h0 : m.read32 Config.crc1Off = word0) (h1 : m.read32 Config.crc2Off = word1) :
    patch p m word0 word1 = (m, false, false) := by
  have hfix0 : needsFix0 m word0 = false := by simp [needsFix0, h0]
  have hfix1 : needsFix1 p.patchCompat m word0 word1 = false := by simp [needsFix1, secondOperand, hp, h1]
  refine Prod.ext ?_ (Prod.ext hfix0 ((patch_fix1 p m word0 word1).trans hfix1))
  rw [patch_mem, hfix0, hfix1]
  rfl

section
variable {p : Config.Params} {m : Memory} {word0 word1 : Word} (h : m.wf = true)
include h

/-- Where the second field is left alone, or rewritten with the word it holds, the patch function writes the first field
only (R132). -/
theorem patch_mem_of_kept
    (hkept : needsFix1 p.patchCompat m word0 word1 = false ∨ m.read32 Config.crc2Off = word1) :
    (patch p m word0 word1).1 = patchField m Config.crc1Off (needsFix0 m word0) word0 := by
  rw [patch_mem]
  rcases hkept with hfix | hstored
  · rw [hfix]
    rfl
  · exact patchField_of_stored _ (patchField_wf _ _ h (by decide)) (by decide)
      ((patchField_read32_other _ _ _ (by decide)).trans hstored)

/-- There the second field reads as before. -/
theorem patch_read32_crc2_of_kept
    (hkept : needsFix1 p.patchCompat m word0 word1 = false ∨ m.read32 Config.crc2Off = word1) :
    (patch p m word0 word1).1.read32 Config.crc2Off = m.read32 Config.crc2Off := by
  rw [patch_mem_of_kept h hkept]
  exact patchField_read32_other _ _ _ (by decide)

/-- The parameters matter to the final buffer only through `fix1`, and not where the second field holds `word1` (R132). -/
theorem patch_mem_congr {q : Config.Params}
    (hfix : m.read32 Config.crc2Off ≠ word1 →
      needsFix1 p.patchCompat m word0 word1 = needsFix1 q.patchCompat m word0 word1) :
    (patch p m word0 word1).1 = (patch q m word0 word1).1 := by
  by_cases hstored : m.read32 Config.crc2Off = word1
  · rw [patch_mem_of_kept h (.inr hstored), patch_mem_of_kept h (.inr hstored)]
  · rw [patch_mem, patch_mem, hfix hstored]

end

/-- Settles O44: the settings differ in what the second field is compared with, so in `fix1`. Where the field holds `word1`,
`fix1` changes no byte; where it holds another word, both settings rewrite it, unless the quirk finds `word0` there. -/
theorem patchCompatConsequences : Obligations.PatchCompatConsequences := by
  intro p m word0 word1 h quirk plain stored1
  have hfix1 : quirk.2.2 = decide (word0 ≠ stored1) := patch_fix1 _ m word0 word1
  refine ⟨fun hstored hne => ⟨?_, fun a hlo hhi => ?_⟩, fun hstored hne => ?_, fun hother => ?_, rfl⟩
  · rw [hfix1, hstored, decide_eq_true hne]
  · exact Memory.read_eq_of_read32_eq (patch_read32_crc2_of_kept h (.inr hstored)) hlo hhi
  · have hnofix : needsFix1 true m word0 word1 = false := decide_eq_false (not_not.2 hstored.symm)
    exact ⟨hfix1.trans hnofix, (patch_read32_crc2_of_kept h (.inl hnofix)).trans hstored⟩
  · refine patch_mem_congr h fun (hwrong : stored1 ≠ word1) => ?_
    have hdiffers : word0 ≠ stored1 := by
      rcases hother with hne | rfl
      · exact hne.symm
      · exact hwrong.symm
    exact (decide_eq_true hdiffers).trans (decide_eq_true hwrong.symm).symm

end Sys2Proof.Machine
end

section
/-! The command `PATCH` (R133 to R135): the case that completes, its two errors, and that a second `PATCH` or a second `REPAIR`
finds both header fields right. -/

namespace Sys2Proof.Machine

open Sys2Proof.Safety

/-! ### The errors -/

theorem exec_patch_of_not_held {s : State} (hv : flagRvalid s.flags = false) :
    exec .patch s = .next (raisePlain .noResult s) := by
  rcases execPatch_eq s with ⟨-, he⟩ | ⟨hv', -⟩ | ⟨hv', -⟩
  · exact he
  all_goals cases hv.symm.trans hv'

theorem exec_patch_of_short {s : State} (hv : flagRvalid s.flags = true) (h : s.len.toNat < 0x18) :
    exec .patch s = .next (raisePlain .truncatedImage s) := by
  rcases execPatch_eq s with ⟨hv', -⟩ | ⟨-, -, he⟩ | ⟨-, hl, -⟩
  · cases hv.symm.trans hv'
  · exact he
  · exact absurd h (Nat.not_lt.2 hl)

/-- Settles O41: `RVALID` decides which error is raised, and either one updates `STATUS` alone. -/
theorem patchErrors : Obligations.PatchErrors :=
  fun _ => ⟨exec_patch_of_not_held, exec_patch_of_short⟩

/-! ### The case that completes -/

theorem afterPatch_flags (s : State) :
    (afterPatch s).flags =
      putFixes s.flags (needsFix0 s.mem s.res0) (needsFix1 Config.params.patchCompat s.mem s.res0 s.res1) := by
  rw [← patch_fix0 Config.params s.mem s.res0 s.res1, ← patch_fix1]
  rfl

/-- A `PATCH` that finds both header fields right writes no byte and reports no fix (R133). -/
theorem afterPatch_of_stored {s : State} (h0 : s.mem.read32 0x10 = s.res0) (h1 : s.mem.read32 0x14 = s.res1) :
    (afterPatch s).mem = s.mem ∧ flagFix0 (afterPatch s).flags = false ∧ flagFix1 (afterPatch s).flags = false := by
  simp [afterPatch, patch_of_stored (p := Config.params) rfl h0 h1]

/-- Settles O42: the buffer is what the patch function leaves, the fixes are its two comparisons, and beside them `PATCH`
updates `STATUS` alone. -/
theorem patchCompletes : Obligations.PatchCompletes := by
  intro s hcanon hv hlen
  obtain ⟨h0, h1⟩ := afterPatch_read32 hcanon
  refine ⟨afterPatch s, exec_patch_of_held hv hlen, h0, h1, ?_, ?_, fun k hk => ?_, afterPatch_status s,
    fun _ ha => afterPatch_read_other s ha, fun hs0 hs1 => (afterPatch_of_stored hs0.symm hs1.symm).1, ⟨rfl, rfl⟩, rfl,
    rfl, ⟨rfl, rfl, rfl⟩, rfl, rfl, ⟨rfl, rfl⟩, rfl, rfl⟩
  · rw [afterPatch_flags, flagFix0_putFixes]
    exact decide_eq_true_iff
  · rw [afterPatch_flags, flagFix1_putFixes]
    exact decide_eq_true_iff
  · rw [afterPatch_flags, getLsbD_putFixes_high _ _ _ hk]

/-- Settles O43: the first `PATCH` leaves the held pair in the header fields and keeps it held. -/
theorem secondPatchWritesNothing : Obligations.SecondPatchWritesNothing := by
  intro s hcanon hv hlen
  obtain ⟨h0, h1⟩ := afterPatch_read32 hcanon
  have hsecond := exec_patch_of_held (s := afterPatch s) (by rwa [flagRvalid_afterPatch]) hlen
  exact ⟨afterPatch s, afterPatch (afterPatch s), exec_patch_of_held hv hlen, hsecond, afterPatch_of_stored h0 h1⟩

/-! ### Confinement (R135) -/

/-- A command that is no `PATCH` does not write the buffer. -/
theorem exec_keeps_mem {i : Instr} {s t : State} (h : exec i s = .next t) (hi : i ≠ .patch) : t.mem = s.mem := by
  rcases exec_next_forms h with ⟨-, v, rfl⟩ | ⟨-, fp, rfl⟩ | ⟨_, -, e, rfl⟩ | ⟨_, -, idn, rfl⟩ | ⟨hpatch, -⟩ |
    ⟨hpatch, -⟩
  · rfl
  · rfl
  · rfl
  · rfl
  · exact absurd hpatch hi
  · exact absurd hpatch hi

/-- Settles O45: `PATCH` writes inside the header fields only, and no other command writes at all. -/
theorem writesConfinedToHeaderFields : Obligations.WritesConfinedToHeaderFields := by
  refine fun i s t h => ⟨exec_keeps_mem h, fun a ha => ?_⟩
  by_cases hi : i = .patch
  · subst hi
    exact exec_patch_read_other h ha
  · rw [exec_keeps_mem h hi]

/-! ### `REPAIR` run twice (R134) -/

/-- The state in which `REPAIR` ends, after its `IDENT` found the fingerprint `fp`. -/
def repaired (fp : Word) (s : State) : State := afterPatch (repairSummed fp s)

@[simp] theorem repaired_len (fp : Word) (s : State) : (repaired fp s).len = s.len := repairSummed_len fp s

@[simp] theorem repairSummed_tbl (fp : Word) (s : State) : (repairSummed fp s).tbl = s.tbl := by
  simp [repairSummed, repairIdentified, readReg, afterIdent, afterCksum]

@[simp] theorem repaired_tbl (fp : Word) (s : State) : (repaired fp s).tbl = s.tbl := repairSummed_tbl fp s

/-- `REPAIR` leaves in `IDR` the answer to the fingerprint it found. -/
theorem repaired_idr (fp : Word) (s : State) :
    (repaired fp s).idr = idrWord (identityCode (matchFingerprint fp).1) (matchFingerprint fp).2 := by
  simp [repaired, afterPatch, repairSummed, repairIdentified, readReg, afterIdent, afterCksum]

/-- `REPAIR` leaves the checksum of the buffer it began with in the result pair. -/
theorem repaired_result (fp : Word) (s : State) :
    ((repaired fp s).res0, (repaired fp s).res1) = computeChecksum Config.params s.mem (matchFingerprint fp).1 :=
  repairSummed_result fp s

/-- `REPAIR` changes neither the fingerprint nor a checksum of the buffer: its `PATCH` writes outside what they read
(R57 (a)). -/
theorem repaired_mem_reads (fp : Word) {s : State} (h : 0x18 ≤ s.len.toNat) :
    fingerprint s.tbl (repaired fp s).mem = fingerprint s.tbl s.mem ∧
      ∀ (p : Config.Params) (idn : Identity), computeChecksum p (repaired fp s).mem idn = computeChecksum p s.mem idn := by
  have hpatch : exec .patch (repairSummed fp s) = .next (repaired fp s) :=
    exec_patch_of_held (flagRvalid_repairSummed fp s) (by rwa [repairSummed_len])
  have hkeeps := patchKeepsIdentAndCksum _ _ hpatch
  rw [repaired_tbl, repairSummed_tbl, repairSummed_mem] at hkeeps
  exact hkeeps

/-- `REPAIR` leaves in the header fields what it leaves in the result pair. -/
theorem repaired_stored (fp : Word) {s : State} (h : BufferCanonical s) :
    (repaired fp s).mem.read32 0x10 = (repaired fp s).res0 ∧ (repaired fp s).mem.read32 0x14 = (repaired fp s).res1 :=
  afterPatch_read32 (s := repairSummed fp s) (by rwa [BufferCanonical, repairSummed_mem])

/-- A `REPAIR` that finds the pair it computes in the header fields writes no byte and reports no fix. -/
theorem repaired_of_stored {fp : Word} {s : State} (h0 : s.mem.read32 0x10 = (repaired fp s).res0)
    (h1 : s.mem.read32 0x14 = (repaired fp s).res1) :
    (repaired fp s).mem = s.mem ∧ flagFix0 (repaired fp s).flags = false ∧ flagFix1 (repaired fp s).flags = false := by
  rw [← repairSummed_mem fp s] at h0 h1 ⊢
  exact afterPatch_of_stored h0 h1

/-- Settles O58: the second `REPAIR` finds the same fingerprint and so computes the same pair, which the first left in the
header fields. -/
theorem repairIsIdempotent : Obligations.RepairIsIdempotent := by
  intro s hcanon hlen
  have hfirst := repair_of_len hlen
  obtain ⟨hfp, hcksum⟩ := repaired_mem_reads (fingerprint s.tbl s.mem) (s := s) (by omega)
  have hsecond := repair_of_len (s := repaired (fingerprint s.tbl s.mem) s) (by rwa [repaired_len])
  rw [repaired_tbl, hfp] at hsecond
  generalize fingerprint s.tbl s.mem = fp at hfirst hsecond hcksum
  have hpair : ((repaired fp (repaired fp s)).res0, (repaired fp (repaired fp s)).res1) =
      ((repaired fp s).res0, (repaired fp s).res1) := by
    rw [repaired_result, repaired_result, hcksum]
  obtain ⟨h0, h1⟩ := Prod.mk.inj hpair
  obtain ⟨hstored0, hstored1⟩ := repaired_stored fp hcanon
  obtain ⟨hmem, hfixes⟩ := repaired_of_stored (hstored0.trans h0.symm) (hstored1.trans h1.symm)
  refine ⟨repaired fp s, repaired fp (repaired fp s), hfirst, hsecond, hmem, ?_, ⟨h0, h1⟩, hfixes⟩
  rw [repaired_idr, repaired_idr]

end Sys2Proof.Machine
end

section
/-! Where the machine stops (60_exceptions.md R145, R149): a command faults exactly where the host broke its duty about the
range, nothing else faults, and a host whose list has no `DIGEST` and no `IDENT` word cannot break it. -/

namespace Sys2Proof.Machine

open Sys2Proof.Safety

/-! ### The only fault -/

/-- A command faults exactly where the host broke its duty about the range, with `RangeUndefined` (R145, R176). -/
theorem exec_fault_iff {i : Instr} {s : State} {f : Fault} :
    exec i s = .fault f ↔ f = .rangeUndefined ∧ ¬RangeDuty i s := by
  cases i with
  | digest =>
    rcases Nat.lt_or_ge s.len.toNat (s.arg0.toNat + s.arg1.toNat) with hout | hin
    · simp [exec_digest_of_not_range hout, RangeDuty, hout]
    · simp [exec_digest_of_range hin, RangeDuty, hin]
  | ident =>
    rcases Nat.lt_or_ge s.len.toNat 0x1000 with hshort | hlen
    · simp [exec_ident_of_short hshort, RangeDuty, hshort]
    · simp [exec_ident_of_len hlen, RangeDuty, hlen]
  | cksum id =>
    rcases execCksum_eq id s with ⟨-, he⟩ | ⟨_, -, -, he⟩ | ⟨_, -, -, he⟩ <;> simp [exec, he, RangeDuty]
  | patch =>
    rcases execPatch_eq s with ⟨-, he⟩ | ⟨-, -, he⟩ | ⟨-, -, he⟩ <;> simp [exec, he, RangeDuty]

/-- A command word faults exactly when its command does; an illegal word is an error and no fault (R73). -/
theorem issue_fault_iff {w : Word} {s : State} {f : Fault} :
    issue w s = .fault f ↔ f = .rangeUndefined ∧ ∃ i, w = encode i ∧ ¬RangeDuty i s := by
  cases hd : decode w with
  | command i =>
    rw [issue_of_command hd, exec_fault_iff, ← encode_of_decode hd]
    refine and_congr_right fun _ => ⟨fun h => ⟨i, rfl, h⟩, fun ⟨j, hj, h⟩ => ?_⟩
    cases (decode_eq_command_iff.2 hj).symm.trans (decode_encode i)
    exact h
  | illegal why =>
    rw [issue_of_illegal hd]
    refine ⟨nofun, fun ⟨_, i, hi, _⟩ => ?_⟩
    cases hd.symm.trans (decode_eq_command_iff.2 hi)

/-- Of the host's actions only the write of a command word can fault. -/
theorem hostAct_fault_iff {a : HostAction} {s : State} {f : Fault} :
    hostAct a s = .fault f ↔ ∃ w, a = .write .cmd w ∧ issue w s = .fault f := by
  refine ⟨fun h => ?_, fun ⟨w, ha, h⟩ => ha ▸ h⟩
  cases a with
  | write r v =>
    by_cases hr : r = .cmd
    · subst hr
      exact ⟨v, rfl, h⟩
    · cases (hostAct_write v s hr).symm.trans h
  | read r => cases h
  | poke x b => cases h
  | reset => cases h

/-- A step faults exactly when the host's next action issues a command whose range duty is broken. -/
theorem step_fault_iff {s : State} {f : Fault} :
    step s = .fault f ↔
      f = .rangeUndefined ∧ ∃ i rest, s.inbox = .write .cmd (encode i) :: rest ∧ ¬RangeDuty i (s.setInbox rest) := by
  constructor
  · intro h
    rcases step_cases s with ⟨-, hidle⟩ | ⟨a, rest, hin, hact⟩
    · cases hidle.symm.trans h
    · obtain ⟨w, rfl, hissue⟩ := hostAct_fault_iff.1 (hact.symm.trans h)
      obtain ⟨hf, i, rfl, hduty⟩ := issue_fault_iff.1 hissue
      exact ⟨hf, i, rest, hin, hduty⟩
  · rintro ⟨hf, i, rest, hin, hduty⟩
    rw [step_of_cons hin, hostAct_write_encode]
    exact exec_fault_iff.2 ⟨hf, hduty⟩

/-- Settles O14: only `DIGEST` and `IDENT` have a duty about the range, and what breaks it are the two cases of R145. -/
theorem stepFaultsExactlyOnUndefinedRange : Obligations.StepFaultsExactlyOnUndefinedRange := by
  intro s f
  rw [step_fault_iff]
  refine and_congr_right fun _ => ⟨fun ⟨i, rest, hin, hduty⟩ => ?_, ?_⟩
  · cases i with
    | digest => exact .inl ⟨rest, hin, Nat.lt_of_not_le hduty⟩
    | ident => exact .inr ⟨rest, hin, Nat.lt_of_not_le hduty⟩
    | cksum id => exact absurd trivial hduty
    | patch => exact absurd trivial hduty
  · rintro (⟨rest, hin, hlen⟩ | ⟨rest, hin, hlen⟩)
    · exact ⟨.digest, rest, hin, Nat.not_le_of_lt hlen⟩
    · exact ⟨.ident, rest, hin, Nat.not_le_of_lt hlen⟩

/-! ### Runs -/

/-- No action of the host changes the list of its coming actions. -/
theorem hostAct_keeps_inbox {a : HostAction} {s t : State} (h : hostAct a s = .next t) : t.inbox = s.inbox := by
  rcases hostAct_next_cases h with ⟨_, i, -, -, he⟩ | ⟨_, _, -, -, rfl⟩ | ⟨r, v, -, -, rfl⟩ | ⟨r, -, rfl⟩ |
    ⟨_, _, -, rfl⟩ | ⟨-, rfl⟩
  · obtain ⟨-, -, hinbox, -⟩ := commandsKeepOperandsAndTable i s t he
    exact hinbox
  · rfl
  · rcases writeReg_cases r v s with hw | hw | hw | hw <;> rw [hw] <;> rfl
  · rcases readReg_cases r s with ⟨v, hr⟩ | hr <;> rw [hr] <;> rfl
  · rfl
  · rfl

/-- A step takes at most the first of the host's actions off its list, and adds none. -/
theorem step_next_inbox {s t : State} (h : step s = .next t) : t.inbox = s.inbox.tail := by
  rcases step_cases s with ⟨hin, hidle⟩ | ⟨a, rest, hin, hact⟩
  · cases hidle.symm.trans h
    rw [hin, List.tail_nil]
  · rw [hostAct_keeps_inbox (hact.symm.trans h), hin]
    rfl

/-- The host's list has no `DIGEST` and no `IDENT` word. -/
def NoDigestWord (s : State) : Prop :=
  ∀ a ∈ s.inbox, a ≠ .write .cmd 0x00000001#32 ∧ a ≠ .write .cmd 0x00000002#32

/-- With no such word in the host's list the next step gives a next state: it does not fault, and no step is refused. -/
theorem NoDigestWord.exists_step_next {s : State} (hs : NoDigestWord s) : ∃ t, step s = .next t := by
  cases h : step s with
  | next t => exact ⟨t, rfl⟩
  | fault f =>
    obtain ⟨-, ⟨rest, hin, -⟩ | ⟨rest, hin, -⟩⟩ := (stepFaultsExactlyOnUndefinedRange s f).1 h
    · exact absurd rfl (hs _ (hin ▸ List.mem_cons_self)).1
    · exact absurd rfl (hs _ (hin ▸ List.mem_cons_self)).2
  | refused r => exact absurd h (stepNeverRefuses s r)

/-- Every step keeps the list free of such words. -/
theorem NoDigestWord.of_step {s t : State} (hs : NoDigestWord s) (h : step s = .next t) : NoDigestWord t :=
  fun a ha => hs a (List.mem_of_mem_tail (step_next_inbox h ▸ ha))

/-- Settles O48, by induction on the number of steps: the first gives a next state whose list has no such word either. -/
theorem runsWithoutDigestsAreSafe : Obligations.RunsWithoutDigestsAreSafe := by
  intro n
  induction n with
  | zero => exact fun s _ => ⟨s, rfl⟩
  | succ n ih =>
    intro s (hs : NoDigestWord s)
    obtain ⟨t, hstep⟩ := hs.exists_step_next
    rw [SafeRun, core_run_succ hstep]
    exact ih t (hs.of_step hstep)

end Sys2Proof.Machine
end

section
/-! The errors (60_exceptions.md R140, R148): which codes each command word can leave in `STATUS`, and that a word that ends in
an error ends in `raiseError` and so has no other effect. -/

namespace Sys2Proof.Machine

open Sys2Proof.Safety

/-! ### The codes -/

/-- `DIGEST` and `IDENT` raise no error (R140). -/
theorem exec_digest_or_ident_status {i : Instr} {s t : State} (hi : i = .digest ∨ i = .ident)
    (h : exec i s = .next t) : t.status = 0#32 := by
  rcases exec_next_forms h with ⟨-, v, rfl⟩ | ⟨-, fp, rfl⟩ | ⟨_, rfl, -⟩ | ⟨_, rfl, -⟩ | ⟨rfl, -⟩ | ⟨rfl, -⟩
  · exact afterDigest_status v s
  · exact afterIdent_status fp s
  all_goals simp at hi

/-- `CKSUM` completes, or raises `UnsupportedBootChip` or `TruncatedImage` (R110, R140). -/
theorem exec_cksum_status {id : BitVec 3} {s t : State} (h : exec (.cksum id) s = .next t) :
    t.status ∈ [0#32, 1#32, 2#32] := by
  rcases execCksum_eq id s with ⟨-, he⟩ | ⟨_, -, -, he⟩ | ⟨idn, -, -, he⟩ <;> rw [exec, he] at h <;> cases h
  · exact (by decide : statusWord (errorCode .unsupportedBootChip) ∈ [0#32, 1#32, 2#32])
  · exact (by decide : statusWord (errorCode .truncatedImage) ∈ [0#32, 1#32, 2#32])
  · simp

/-- `PATCH` completes, or raises `NoResult` or `TruncatedImage` (R133, R140). -/
theorem exec_patch_status {s t : State} (h : exec .patch s = .next t) : t.status ∈ [0#32, 2#32, 3#32] := by
  rcases execPatch_eq s with ⟨-, he⟩ | ⟨-, -, he⟩ | ⟨-, -, he⟩ <;> rw [exec, he] at h <;> cases h
  · exact (by decide : statusWord (errorCode .noResult) ∈ [0#32, 2#32, 3#32])
  · exact (by decide : statusWord (errorCode .truncatedImage) ∈ [0#32, 2#32, 3#32])
  · simp

/-- Settles O51: a legal word by its command, and an illegal word raises `IllegalCommand`. -/
theorem statusCodesByCommand : Obligations.StatusCodesByCommand := by
  intro w s t h
  cases hd : decode w with
  | command i =>
    rw [issue_of_command hd] at h
    cases i with
    | digest => exact exec_digest_or_ident_status (.inl rfl) h
    | ident => exact exec_digest_or_ident_status (.inr rfl) h
    | cksum id => exact exec_cksum_status h
    | patch => exact exec_patch_status h
  | illegal why =>
    rw [issue_of_illegal hd] at h
    cases h
    rfl

/-! ### The effect of an error -/

/-- A command that leaves a code other than 0 is a `CKSUM` or a `PATCH` that took an error. -/
theorem exec_error_forms {i : Instr} {s t : State} (h : exec i s = .next t) (hcode : t.status ≠ 0#32) :
    (∃ id e, i = .cksum id ∧ t = raiseByCksum e s) ∨ (i = .patch ∧ ∃ e, t = raisePlain e s) := by
  rcases exec_next_forms h with ⟨-, v, rfl⟩ | ⟨-, fp, rfl⟩ | ⟨id, hi, e, ht⟩ | ⟨_, -, idn, rfl⟩ | hplain | ⟨-, rfl⟩
  · exact absurd (afterDigest_status v s) hcode
  · exact absurd (afterIdent_status fp s) hcode
  · exact .inl ⟨id, e, hi, ht⟩
  · exact absurd (afterCksum_status idn s) hcode
  · exact .inr hplain
  · exact absurd (afterPatch_status s) hcode

/-- A command word that leaves a code other than 0 ends in one of the two forms of taking an error (R148). -/
theorem issue_error_forms {w : Word} {s t : State} (h : issue w s = .next t) (hcode : t.status ≠ 0#32) :
    ((∃ id, decode w = .command (.cksum id)) ∧ ∃ e, t = raiseByCksum e s) ∨
    ((∀ id, decode w ≠ .command (.cksum id)) ∧ ∃ e, t = raisePlain e s) := by
  cases hd : decode w with
  | command i =>
    rw [issue_of_command hd] at h
    rcases exec_error_forms h hcode with ⟨id, e, rfl, ht⟩ | ⟨rfl, hplain⟩
    · exact .inl ⟨⟨id, rfl⟩, e, ht⟩
    · exact .inr ⟨nofun, hplain⟩
  | illegal why =>
    rw [issue_of_illegal hd] at h
    cases h
    exact .inr ⟨nofun, .illegalCommand, rfl⟩

/-- Settles O52: a `CKSUM` that takes an error updates `STATUS`, `RVALID` and the result pair, any other word `STATUS` alone. -/
theorem errorsHaveNoOtherEffect : Obligations.ErrorsHaveNoOtherEffect := by
  intro w s t h hcode
  rcases issue_error_forms h hcode with ⟨⟨id, hid⟩, e, rfl⟩ | ⟨hno, e, rfl⟩
  · exact ⟨rfl, rfl, rfl, ⟨rfl, rfl, rfl⟩, rfl, flagFix0_putRvalid _ _, flagFix1_putRvalid _ _, rfl, ⟨rfl, rfl⟩,
      ⟨rfl, rfl⟩, fun _ => flagRvalid_putRvalid _ _, fun hno => absurd hid (hno id)⟩
  · exact ⟨rfl, rfl, rfl, ⟨rfl, rfl, rfl⟩, rfl, rfl, rfl, rfl, ⟨rfl, rfl⟩, ⟨rfl, rfl⟩,
      fun ⟨id, hid⟩ => absurd hid (hno id), fun _ => ⟨rfl, ⟨rfl, rfl⟩⟩⟩

end Sys2Proof.Machine
end

section
/-! Reset and the host's duties (70_reset_and_hazards.md R170, R176, R178): a reset between commands, and which commands complete. -/

namespace Sys2Proof.Machine

open Sys2Proof.Safety

/-- The host's reset action always completes (R170). -/
theorem hostAct_reset (s : State) : hostAct .reset s = .next (applyReset s) := rfl

/-- Settles O20: the table and the registers are those of `State.reset`, the buffer is the one it finds. -/
theorem resetAgainKeepsTheBuffer : Obligations.ResetAgainKeepsTheBuffer := fun s =>
  ⟨applyReset s, hostAct_reset s, tableEntry_generatedTable, rfl, rfl, rfl, rfl⟩

/-- Settles O47: no command is refused, and one faults exactly where the duty is broken. -/
theorem commandsCompleteUnderTheirDuty : Obligations.CommandsCompleteUnderTheirDuty := by
  intro i s
  constructor
  · intro hduty
    cases h : exec i s with
    | next t => exact ⟨t, rfl⟩
    | fault f => exact absurd hduty (exec_fault_iff.1 h).2
    | refused r => exact absurd h (exec_ne_refused i s r)
  · rintro ⟨t, hnext⟩
    by_contra hbroken
    have hfault : exec i s = .fault .rangeUndefined := exec_fault_iff.2 ⟨rfl, hbroken⟩
    cases hnext.symm.trans hfault

end Sys2Proof.Machine
end
